-- ==== Sys2Proof/Word.lean ====
section
/-! DEFINITION. The words of the part: bytes of the command link and the flash, 24-bit audio samples,
and the keyed tables its records are held in. -/

namespace Sys2Proof

/-- A byte of the command link or of the serial flash. -/
abbrev Byte := BitVec 8

/-- A run of bytes, first on the wire first. -/
abbrev Bytes := List Byte

/-- A 24-bit two's-complement audio sample (00_scope.md, "Sample values"). -/
abbrev Sample := BitVec 24

/-- A label: its characters, one byte each (R192). -/
abbrev Label := Bytes

/-- A table of records: key and record, keys strictly rising. -/
abbrev Table (α : Type) := List (Nat × α)

end Sys2Proof
end

