-- ==== Sys2Proof/Config.lean ====
section
/-! DEFINITION. What the spec leaves to the world outside the part or does not state: free values.
None has a body, so no proof can see one. -/

namespace Sys2Proof

/-- What the fitted flash returns for a byte address that a refill reads and the command's operand
does not bring (R99: the clip "plays whatever the flash returns for those addresses"). Log entry 17. -/
opaque Config.flashByte : Nat → Byte

/-- The value a show flag takes when a WRITE of FLAGS omits its field, from the flag's number and the
value it had. R62 says the write replaces all 32 and does not say with what. Log entry 12. -/
opaque Config.omittedShowFlag : Nat → Bool → Bool

/-- The four bytes LOOKUP shows for a number that needs more than the 4 bytes R192 allows (a start
order, a 48-bit count, or a creation order, of 2^32 or more). Log entry 16. -/
opaque Config.wideNumber : Nat → BitVec 32

end Sys2Proof
end

