-- ==== Sys2Proof/Syntax.lean ====
section
/-! DEFINITION. The commands of the part: one constructor of `Instr` per row of spec/opcode_table.json,
in the table's order, and the operands they carry. -/

namespace Sys2Proof

/-- A source reference of a foldback ingredient (section 7.3). -/
inductive Source where
  | role (k : Nat)
  | input (n : Nat)
  | programme (p : Nat)
deriving DecidableEq, Repr

/-- One entry of a field list: a field number and a value of 0 to 255 bytes (R192). -/
structure Entry where
  num : Byte
  val : Bytes
deriving DecidableEq, Repr

/-- The field list of a request, or `none` where an entry runs past the end of the body (R192). -/
abbrev Body := Option (List Entry)

/-- The table number and the key of a LOOKUP or NEXT_KEY (R191); `none` where the body ends before the
part named is complete. -/
structure KeyReq where
  table : Option Byte
  key : Option Bytes
deriving DecidableEq, Repr

/-- The key, the mode byte and the field list of a WRITE whose table is the row's (R191). -/
structure WriteReq where
  key : Option Bytes
  mode : Option Byte
  fields : Body
deriving DecidableEq, Repr

/-- The samples received on the four TDM input ports in one sample period, 16 slots each (R7). -/
structure InPorts where
  a : Vector Sample 16
  b : Vector Sample 16
  c : Vector Sample 16
  d : Vector Sample 16
deriving DecidableEq, Repr

/-- The commands: requests of the host, events on pins, the clock, the flash's answer, and the part's
own internal events, each a whole and indivisible step (95_what_each_step_holds.md). -/
inductive Instr where
  /-- POWER_ON_RESET: RESET active and then released (R184). -/
  | powerOnReset
  /-- CLOCK_SELECTION: the 1 ms watch ends; `edge` says whether a WCLK edge came in it (R185). -/
  | clockSelection (edge : Bool)
  | wclkLoss
  | wclkReturn
  | externalClockSwitch
  /-- SAMPLE_PERIOD with the 64 input samples received in it (R4, R7). -/
  | samplePeriod (inp : InPorts)
  | clipEnd (voice : Nat)
  | markEnd (gen : Nat)
  | cycleEnd (gen : Nat)
  | chimeComplete (gen : Nat)
  | refillGrant
  /-- REFILL_COMPLETE with the bytes the flash returned, three a sample (R112). -/
  | refillComplete (data : Bytes)
  /-- CONTROL_TICK with the levels of pins L1 to L12, bit n − 1 for line n, high as 1 (R182, R196). -/
  | controlTick (pins : BitVec 12)
  /-- RAMP_COMPLETE of a pool entry, 0 to 127 (R15). -/
  | rampComplete (entry : Nat)
  | gateClosed (voice : Nat)
  | gateOpened (voice : Nat)
  | crossfadeEnd (output : Nat) (src : Source)
  | packTimeout (pack : Nat)
  | actionDue (run : Nat)
  | followExpiry (run : Nat)
  | darkGapEnd
  | flashPhase
  | chaseFrameAdvance
  | chaseSilence
  | freewheelExpiry
  | timecodeGo
  | openingEnd (call : Nat)
  | closingEnd (call : Nat)
  | gapEnd (call : Nat)
  | liveMaximum (call : Nat)
  | goLineActivation (line : Nat)
  | holdLineActivation (line : Nat)
  | holdLineRelease (line : Nat)
  | stopLineActivation (line : Nat)
  | resumeLineActivation (line : Nat)
  | evacLineActivation (line : Nat)
  | evacLineRelease (line : Nat)
  | wakeLineActivation (line : Nat)
  | pttPress (line : Nat)
  | pttRelease (line : Nat)
  /-- READ_TRANSACTION: no whole byte received, or `count` bytes, every one FF (R189). -/
  | readTransaction (count : Nat)
  /-- BAD_FRAME with the bytes received (R190). -/
  | badFrame (rx : Bytes)
  /-- UNKNOWN_REQUEST with the request code byte of the valid frame (R190). -/
  | unknownRequest (code : Byte)
  | nop (body : Body)
  | lookup (req : KeyReq)
  | nextKey (req : KeyReq)
  | writeRole (w : WriteReq)
  | writePerformer (w : WriteReq)
  | writePack (w : WriteReq)
  | writeCue (w : WriteReq)
  | writeFlags (w : WriteReq)
  | writeCueState (w : WriteReq)
  | writeClip (w : WriteReq)
  | writeProgramme (w : WriteReq)
  | writeFoldback (w : WriteReq)
  | writeLiveIngredient (w : WriteReq)
  | writePendingIngredient (w : WriteReq)
  | writeZone (w : WriteReq)
  | writeGroup (w : WriteReq)
  | writePattern (w : WriteReq)
  | writeLine (w : WriteReq)
  | writeSettings (w : WriteReq)
  | writeStatus (w : WriteReq)
  /-- WRITE to VOICE, CHASE, HOUSE, CALL, GENERATOR or an unknown table (R191). -/
  | writeRefusedTable (table : Option Byte) (w : WriteReq)
  | retireRole (key : Option Bytes)
  | retirePerformer (key : Option Bytes)
  | retirePack (key : Option Bytes)
  | retireCue (key : Option Bytes)
  | retireClip (key : Option Bytes)
  | retireLiveIngredient (key : Option Bytes)
  | retirePendingIngredient (key : Option Bytes)
  | retireZone (key : Option Bytes)
  | retireGroup (key : Option Bytes)
  | cancelCall (key : Option Bytes)
  | retirePattern (key : Option Bytes)
  | readStatus (body : Body)
  | clearEvents (body : Body)
  | insertCue (body : Body)
  | standby (body : Body)
  | clearStandby (body : Body)
  | go (body : Body)
  | hold (body : Body)
  | unhold (body : Body)
  | timeFrame (body : Body)
  | packReport (body : Body)
  | swap (body : Body)
  | take (body : Body)
  | discard (body : Body)
  | setCheck (body : Body)
  | placeCall (body : Body)
  | endCall (body : Body)
  | stopShow (body : Body)
  | resume (body : Body)
  | endShow (body : Body)
  | evac (body : Body)
  | clearEvac (body : Body)
  | dark (body : Body)
  | wake (body : Body)
  | restartAudio (body : Body)
  | useExternalClock (body : Body)
  /-- RETIRE of a table whose records cannot be retired, or of an unknown table (R191). -/
  | retireRefusedTable (table : Option Byte) (key : Option Bytes)
deriving DecidableEq, Repr

end Sys2Proof
end

