-- ==== Sys2Proof/Machine/State.lean ====
section
/-! DEFINITION. The state of the part: every record, counter, latch and mark the spec names, as plain data,
the reasons a step can stop, and the state right after reset. -/

namespace Sys2Proof.Machine

/-- No command of the part stops the machine: there is no fault. -/
inductive Fault where
deriving DecidableEq, Repr

/-- Why a command has no meaning. -/
inductive Refusal where
  /-- An arm of exec that has no meaning yet, by its row's mnemonic. Safe. No arm uses it. -/
  | notModelled (mnemonic : String)
deriving DecidableEq, Repr

/-! ### Levels and ramps (chapter 1) -/

/-- A gain element: a stored level or attenuation that the ramp engine can move (section 1.3). -/
inductive Element where
  | voice (v : Nat)
  | ingredient (output : Nat) (src : Source)
  | foldbackMaster (output : Nat)
  | stageDuck (output : Nat)
  | programmeMaster (p : Nat)
  | zoneFeed (z : Nat)
  | zoneDuck (z : Nat)
  | protect (ch : Nat)
deriving DecidableEq, Repr

/-- The kind of activity that started a ramp (R17). -/
inductive RampOwner where
  | cue
  | edit
  | take
  | call
  | protect
deriving DecidableEq, Repr

/-- What is done when a ramp completes (R15). -/
inductive Completion where
  | stopVoice (v startOrder : Nat)
  | removeIngredient (output : Nat) (src : Source)
deriving DecidableEq, Repr

/-- The arithmetic of one movement of a fine level (R13, R14): fine target, direction, quotient, remainder,
length, accumulator, ticks remaining, off at end. -/
structure Glide where
  target : Nat
  up : Bool
  q : Nat
  r : Nat
  n : Nat
  acc : Nat
  left : Nat
  offAtEnd : Bool
deriving DecidableEq, Repr

/-- An entry of the ramp pool (section 1.4). -/
structure Ramp where
  element : Element
  glide : Glide
  owner : RampOwner
  frozen : Bool
  action : Option Completion
deriving DecidableEq, Repr

/-- A request to the ramp engine (R11). -/
structure Move where
  element : Element
  target : Nat
  fade : Nat
  owner : RampOwner
  action : Option Completion
deriving DecidableEq, Repr

/-- A built-in level term: its fine level and the built-in ramp on it, if any (section 1.5). -/
structure Term where
  fine : Nat
  glide : Option Glide
deriving DecidableEq, Repr

/-! ### The cast table (chapter 2) -/

structure Role where
  label : Label
  performer : Option Nat
deriving DecidableEq, Repr

structure Performer where
  label : Label
  primary : Option Nat
  spare : Option Nat
  room : Option Nat
  autoSwap : Bool
deriving DecidableEq, Repr

inductive Health where
  | unknown
  | qualifying
  | good
  | lost
deriving DecidableEq, Repr

/-- A pack; its named-by field is a view of the performers (`State.namedBy`, log entry 8). -/
structure Pack where
  channel : Nat
  health : Health
  rf : Option Nat
  battery : Option Nat
  warning : Bool
  progress : Nat
  age : Nat
deriving DecidableEq, Repr

/-! ### Cues (chapters 3 and 4) -/

/-- A call target (R145); `stage` is zone 0. -/
inductive Target where
  | zone (z : Nat)
  | group (g : Nat)
  | performer (k : Nat)
  | role (r : Nat)
  | all
  | stage
deriving DecidableEq, Repr

/-- The element of a MASTER action (section 3.3). -/
inductive MasterRef where
  | foldback (o : Nat)
  | programme (p : Nat)
  | zone (z : Nat)
deriving DecidableEq, Repr

/-- What an action does, with its fields (section 3.3). -/
inductive ActionKind where
  | play (clip tag level : Nat) (route : List Nat) (fadeIn : Nat) (loops : Option Nat)
  | voiceFade (tag level fade : Nat) (stopAtEnd : Bool)
  | voiceRelease (tag : Nat)
  | voiceStop (tag fade : Nat)
  | ingredient (output : Nat) (src : Source) (level fade : Nat)
  | master (el : MasterRef) (level fade : Nat)
  | flag (n : Nat) (set : Bool)
  | call (target : Target) (clip : Nat) (pattern : Option Nat) (priority : Nat)
deriving DecidableEq, Repr

structure Action where
  kind : ActionKind
  delay : Nat
deriving DecidableEq, Repr

inductive Trigger where
  | manual
  | timecode (frame : Nat)
deriving DecidableEq, Repr

/-- A branch: flag, sense (true for SET), target cue by its hundredths value (section 3.2). -/
structure Branch where
  flag : Nat
  sense : Bool
  target : Nat
deriving DecidableEq, Repr

/-- A cue; its number is its key in the cue list, as a hundredths value. -/
structure Cue where
  label : Label
  trigger : Trigger
  follow : Option Nat
  branch : Option Branch
  actions : List Action
deriving DecidableEq, Repr

/-- The standby latch when FULL: the number and copy, and its two marks (R65). -/
structure Latch where
  number : Nat
  cue : Cue
  stale : Bool
  armed : Bool
deriving DecidableEq, Repr

inductive Follow where
  | absent
  | waiting (wait : Nat)
  | expired
deriving DecidableEq, Repr

/-- An action of a run, marked executed or not. -/
structure RunAction where
  action : Action
  executed : Bool
deriving DecidableEq, Repr

/-- A BUSY cue run (section 4.5). -/
structure Run where
  order : Nat
  number : Nat
  label : Label
  actions : List RunAction
  elapsed : Nat
  follow : Follow
deriving DecidableEq, Repr

inductive Lamp where
  | off
  | on
  | flash
deriving DecidableEq, Repr

/-- The cue engine's own state beside the list and the show flags (chapter 4). `runs` holds the BUSY runs
by number, 1 to 8; the others are FREE. -/
structure CueEngine where
  latch : Option Latch
  pendingGo : Bool
  missed : Nat
  holdRequest : Bool
  holdLine : Bool
  lastFired : Option Nat
  runs : Table Run
  nextOrder : Nat
  darkGap : Nat
  lamp : Lamp
  lit : Bool
  flashCount : Nat
deriving DecidableEq, Repr

/-- How a GO was dealt with (R70). -/
inductive GoOutcome where
  | fired (number : Nat)
  | pending
  | missed
  | endOfList
  | refused
deriving DecidableEq, Repr

/-! ### Timecode chase (chapter 5) -/

inductive ChaseState where
  | absent
  | acquiring
  | locked
  | freewheel
deriving DecidableEq, Repr

structure Chase where
  state : ChaseState
  frame : Nat
  tick : Nat
  count : Nat
  silence : Nat
  freewheel : Nat
deriving DecidableEq, Repr

/-! ### Voices (chapter 6) -/

structure Clip where
  start : Nat
  length : Nat
  loop : Option (Nat × Nat)
  loops : Nat
  trim : Nat
  label : Label
deriving DecidableEq, Repr

inductive VoiceState where
  | idle
  | playing
  | paused
  | closing
deriving DecidableEq, Repr

inductive VoiceOwner where
  | none
  | cue
  | call (id : Nat)
deriving DecidableEq, Repr

/-- Loops remaining: NONE, ENDLESS, a count of 1 to 255, or DONE. -/
inductive Loops where
  | none
  | endless
  | count (n : Nat)
  | done
deriving DecidableEq, Repr

inductive GateState where
  | opened
  | closed
  | opening
  | closing
deriving DecidableEq, Repr

/-- A voice's gate (R21). -/
structure Gate where
  state : GateState
  term : Term
deriving DecidableEq, Repr

inductive ClosingCause where
  | steal
  | ending
deriving DecidableEq, Repr

/-- A pending playback (R103). -/
structure PendingPlay where
  clip : Nat
  route : List Nat
  loops : Loops
  held : Option Move
  owner : VoiceOwner
deriving DecidableEq, Repr

/-- A place in a playback, in playback order: the next sample index and the loops remaining there. -/
structure Cursor where
  index : Nat
  loops : Loops
deriving DecidableEq, Repr

/-- A voice (section 6.2). `tail` counts the samples of the buffer already sounded as the tail (R101);
`requested` is set while a refill request waits for the port (R111). -/
structure Voice where
  state : VoiceState
  owner : VoiceOwner
  tag : Option Nat
  clip : Option Nat
  position : Nat
  loops : Loops
  level : Nat
  gate : Gate
  route : List Nat
  startOrder : Nat
  primed : Bool
  buffer : List Sample
  cursor : Cursor
  pending : Option PendingPlay
  cause : Option ClosingCause
  tail : Nat
  requested : Bool
deriving DecidableEq, Repr

/-- One read of the serial flash: the read command byte, the 32-bit byte address, and how many samples of 24 bits are
clocked in (R112). -/
structure FlashRead where
  command : Byte
  address : BitVec 32
  samples : Nat
deriving DecidableEq, Repr

/-- The refill the port is busy with (R111, R112): the voice, the byte addresses of its samples in playback
order, the reads it is made of, whether it is disowned, how many samples from the first it may keep (R107), how many from the first
the voice has passed (R112), and the flash clock periods and the divisor it runs at. -/
structure Refill where
  voice : Nat
  addresses : List Nat
  reads : List FlashRead
  disowned : Bool
  keep : Nat
  passed : Nat
  clocks : Nat
  divisor : Nat
deriving DecidableEq, Repr

/-- The voice unit's state beside its voices (chapter 6). -/
structure VoiceUnit where
  startOrder : Nat
  waiting : List Nat
  lastServed : Nat
  refill : Option Refill
deriving DecidableEq, Repr

structure Programme where
  label : Label
  master : Nat
  clips : Nat
deriving DecidableEq, Repr

/-! ### Foldback (chapter 7) -/

inductive CheckState where
  | normal
  | mute
  | tone
deriving DecidableEq, Repr

/-- The outgoing side of a rebind crossfade (R22). -/
structure Outgoing where
  channel : Nat
  term : Term
deriving DecidableEq, Repr

/-- A live ingredient (section 7.3); `channel`, `rebind` and `outgoing` matter for a ROLE source alone. -/
structure Ingredient where
  src : Source
  level : Nat
  channel : Option Nat
  rebind : Term
  outgoing : Option Outgoing
deriving DecidableEq, Repr

/-- A pending ingredient: its source and its stored level code. -/
structure PendingIngredient where
  src : Source
  level : Nat
deriving DecidableEq, Repr

structure Foldback where
  label : Label
  master : Nat
  announce : Nat
  duckDepth : Nat
  duck : Nat
  check : CheckState
  live : List Ingredient
  pending : Option (List PendingIngredient)
  clips : Nat
deriving DecidableEq, Repr

/-! ### Relay and calls (chapter 8) -/

inductive Feed where
  | input (n : Nat)
  | programme (p : Nat)
  | none
deriving DecidableEq, Repr

/-- The pass occupying a zone or the stage: its call's id and priority. -/
structure Occupant where
  id : Nat
  priority : Nat
deriving DecidableEq, Repr

structure Zone where
  label : Label
  feed : Feed
  level : Nat
  duck : Nat
  duckDepth : Nat
  duckFade : Nat
  restoreFade : Nat
  callLevel : Nat
  floor : Nat
  occupant : Option Occupant
  clips : Nat
deriving DecidableEq, Repr

structure Group where
  label : Label
  members : List Nat
deriving DecidableEq, Repr

inductive CallKind where
  | live (src : Nat)
  | clip (k : Option Nat)
deriving DecidableEq, Repr

inductive ZoneStatus where
  | waiting
  | active
  | done
  | missed
  | skipped
  | preempted
deriving DecidableEq, Repr

inductive Phase where
  | idle
  | opening
  | chime
  | message
  | closing
  | gap
deriving DecidableEq, Repr

/-- A call's voice: none, the call voice held, or a request waiting for one. -/
inductive VoiceHold where
  | none
  | held (v : Nat)
  | waiting
deriving DecidableEq, Repr

/-- A call (section 8.4); its id is its key. The status list is by zone, the stage as zone 0 first. -/
structure Call where
  priority : Nat
  kind : CallKind
  pattern : Option Nat
  order : Nat
  entries : Table ZoneStatus
  phase : Phase
  timer : Nat
  voice : VoiceHold
  gen : Option Nat
  liveTime : Nat
  ptt : Bool
  evac : Bool
  cut : Bool
deriving DecidableEq, Repr

/-- The relay unit's state beside its zones and groups (chapter 8). -/
structure Relay where
  calls : Table Call
  lastId : Nat
  orderCount : Nat
  stage : Option Occupant
  pttPressed : Bool
deriving DecidableEq, Repr

/-! ### Chimes (chapter 9) -/

/-- A pattern's fields that a generator copies: true `alternate` is mode ALTERNATE. -/
structure Tune where
  alternate : Bool
  primary : Nat
  secondary : Nat
  mark : Nat
  space : Nat
  cycles : Nat
  rests : Nat
  level : Nat
deriving DecidableEq, Repr

structure Pattern where
  label : Label
  tune : Tune
deriving DecidableEq, Repr

inductive GenUse where
  | free
  | chime
  | lineCheck
deriving DecidableEq, Repr

inductive Section where
  | mark
  | space
  | rest
deriving DecidableEq, Repr

structure Generator where
  use : GenUse
  call : Option Nat
  pattern : Option Nat
  shadow : Option Tune
  part : Section
  phase : Nat
  step : Nat
  secondary : Bool
  count : Nat
  cyclesDone : Nat
  restsDone : Nat
  output : Int
deriving DecidableEq, Repr

/-! ### House, clock, status, lines, link (chapters 10 and 11) -/

inductive HouseState where
  | preset
  | running
  | stopped
  | evac
  | dark
deriving DecidableEq, Repr

/-- The house controller: house state, stop context, and the sample periods since the last tick. -/
structure House where
  state : HouseState
  held : Bool
  heldTime : Nat
  tickDiv : Nat
deriving DecidableEq, Repr

inductive ClockSource where
  | external
  | internal
deriving DecidableEq, Repr

/-- The sample clock (R185 to R187): `selecting` until CLOCK_SELECTION, `switching` from a taken
USE_EXTERNAL_CLOCK to the next WCLK edge, the divider's values in use, its accumulator, and the reference
periods of the internal period in progress. -/
structure Clock where
  selecting : Bool
  source : ClockSource
  wclk : Bool
  switching : Bool
  divInt : Nat
  divFrac : Nat
  acc : Nat
  period : Nat
deriving DecidableEq, Repr

/-- The status and event unit: flags, mask, counters (R193). -/
structure StatusUnit where
  events : BitVec 32
  mask : BitVec 32
  clipped : Nat
  rampOverflow : Nat
  actionSkipped : Nat
  underrun : Nat
deriving DecidableEq, Repr

inductive LineFunction where
  | none
  | go
  | hold
  | stop
  | resume
  | evac
  | wake
  | ptt
  | cueLight
  | generalOut
deriving DecidableEq, Repr

/-- A control line record (section 11.4); `pin` is the level last sampled at the pin. -/
structure Line where
  function : LineFunction
  activeLow : Bool
  enabled : Bool
  manual : Bool
  latch : Bool
  pin : Bool
  active : Bool
  count : Nat
deriving DecidableEq, Repr

/-- The 24 settings (section 11.5). -/
structure Settings where
  rfFloor : Nat
  qualifyCount : Nat
  reportTimeout : Nat
  batteryThreshold : Nat
  protectDepth : Nat
  protectFade : Nat
  restoreFade : Nat
  window : Nat
  qualifyIndex : Nat
  freewheelLimit : Nat
  clipDivisor : Nat
  editGlide : Nat
  stageDuckFade : Nat
  stageRestoreFade : Nat
  defaultZone : Nat
  liveMaximum : Nat
  evacClip : Option Nat
  evacPattern : Option Nat
  evacGap : Nat
  pttSource : Nat
  pttPriority : Nat
  pttTargets : List Target
  divInt : Nat
  divFrac : Nat
deriving DecidableEq, Repr

/-- The 48 output samples of one sample period (R4), by output number. -/
structure Mix where
  foldback : Table Sample
  programme : Table Sample
  zone : Table Sample
deriving DecidableEq, Repr

/-- The samples in the slots 1 to 16 of ports X, Y and Z (R7). -/
structure OutPorts where
  x : Table Sample
  y : Table Sample
  z : Table Sample
deriving DecidableEq, Repr

/-- An internal event that has come due, one for each internal row of the opcode table (log entry 1). -/
inductive Event where
  | clipEnd (voice : Nat)
  | markEnd (gen : Nat)
  | cycleEnd (gen : Nat)
  | chimeComplete (gen : Nat)
  | refillGrant
  | rampComplete (entry : Nat)
  | gateClosed (voice : Nat)
  | gateOpened (voice : Nat)
  | crossfadeEnd (output : Nat) (src : Source)
  | packTimeout (pack : Nat)
  | actionDue (run : Nat)
  | followExpiry (run : Nat)
  | darkGapEnd
  | flashPhase
  | chaseFrameAdvance
  | chaseSilence
  | freewheelExpiry
  | timecodeGo
  | openingEnd (call : Nat)
  | closingEnd (call : Nat)
  | gapEnd (call : Nat)
  | liveMaximum (call : Nat)
  | goLine (line : Nat)
  | holdLine (line : Nat)
  | holdRelease (line : Nat)
  | stopLine (line : Nat)
  | resumeLine (line : Nat)
  | evacLine (line : Nat)
  | evacRelease (line : Nat)
  | wakeLine (line : Nat)
  | pttPress (line : Nat)
  | pttRelease (line : Nat)
deriving DecidableEq, Repr

/-- The state of the part. `agenda` holds the internal events that have come due and `pending` the commands
that wait; both are the model's own. -/
structure State where
  ramps : Table Ramp
  protect : Table Nat
  roles : Table Role
  performers : Table Performer
  packs : Table Pack
  cues : Table Cue
  flags : BitVec 32
  cue : CueEngine
  chase : Chase
  clips : Table Clip
  voices : Table Voice
  voiceUnit : VoiceUnit
  programmes : Table Programme
  outputs : Table Foldback
  zones : Table Zone
  groups : Table Group
  relay : Relay
  patterns : Table Pattern
  gens : Table Generator
  house : House
  clock : Clock
  status : StatusUnit
  lines : Table Line
  settings : Settings
  response : Bytes
  mix : Mix
  ports : OutPorts
  agenda : List Event
  pending : List Instr
deriving DecidableEq, Repr

/-! ### The state after reset -/

/-- A table that holds one record at each of the keys `1` to `n`. -/
def numbered {α : Type} (n : Nat) (a : α) : Table α := (List.range n).map fun k => (k + 1, a)

/-- A level term at rest at unity. -/
def Term.unity : Term := ⟨960 * 65536, none⟩

/-- A gate OPEN at 960 (R21). -/
def Gate.atOpen : Gate := ⟨.opened, Term.unity⟩

/-- An IDLE voice as power-on reset leaves it (R117; the fields R117 does not name: log entry 30). -/
def Voice.reset : Voice :=
  { state := .idle, owner := .none, tag := none, clip := none, position := 0, loops := .none, level := 0,
    gate := Gate.atOpen, route := [], startOrder := 0, primed := false, buffer := [], cursor := ⟨0, .none⟩,
    pending := none, cause := none, tail := 0, requested := false }

/-- A programme output after power-on reset (R117). -/
def Programme.reset : Programme := { label := [], master := 960 * 65536, clips := 0 }

/-- A foldback output after power-on reset (R136). -/
def Foldback.reset : Foldback :=
  { label := [], master := 960 * 65536, announce := 960, duckDepth := 240, duck := 0, check := .normal,
    live := [], pending := none, clips := 0 }

/-- A FREE generator with its fields cleared (R169, R173). -/
def Generator.reset : Generator :=
  { use := .free, call := none, pattern := none, shadow := none, part := .mark, phase := 0, step := 0,
    secondary := false, count := 0, cyclesDone := 0, restsDone := 0, output := 0 }

/-- A line record after power-on reset (section 11.4). -/
def Line.reset : Line :=
  { function := .none, activeLow := false, enabled := false, manual := false, latch := false, pin := false,
    active := false, count := 0 }

/-- The default settings (section 11.5). -/
def Settings.reset : Settings :=
  { rfFloor := 4, qualifyCount := 8, reportTimeout := 2000, batteryThreshold := 30, protectDepth := 240,
    protectFade := 20, restoreFade := 500, window := 1, qualifyIndex := 2, freewheelLimit := 2000,
    clipDivisor := 1, editGlide := 50, stageDuckFade := 300, stageRestoreFade := 1500, defaultZone := 1,
    liveMaximum := 120, evacClip := none, evacPattern := none, evacGap := 2000, pttSource := 1,
    pttPriority := 1, pttTargets := [.all], divInt := 520, divFrac := 54613 }

/-- The cue engine after power-on reset (R86). -/
def CueEngine.reset : CueEngine :=
  { latch := none, pendingGo := false, missed := 0, holdRequest := false, holdLine := false,
    lastFired := none, runs := [], nextOrder := 0, darkGap := 0, lamp := .off, lit := true, flashCount := 0 }

/-- The chase record after power-on reset (R98). -/
def Chase.reset : Chase := { state := .absent, frame := 0, tick := 0, count := 0, silence := 0, freewheel := 0 }

/-- The 48 samples of silence. -/
def Mix.silent : Mix := { foldback := numbered 24 0, programme := numbered 8 0, zone := numbered 16 0 }

/-- Ports whose every slot carries 0. -/
def OutPorts.silent : OutPorts := { x := numbered 16 0, y := numbered 16 0, z := numbered 16 0 }

/-- The part right after the release of RESET, before the clock is selected (R184, R185; log entry 7). The
response buffer holds the response to NOP: OK, code 00, an empty body and the frame's CRC (R189). -/
def State.reset : State :=
  { ramps := [], protect := numbered 64 0, roles := [], performers := [], packs := [], cues := [], flags := 0,
    cue := CueEngine.reset, chase := Chase.reset, clips := [], voices := numbered 16 Voice.reset,
    voiceUnit := { startOrder := 0, waiting := [], lastServed := 16, refill := none },
    programmes := numbered 8 Programme.reset, outputs := numbered 24 Foldback.reset, zones := [],
    groups := [], relay := { calls := [], lastId := 0, orderCount := 0, stage := none, pttPressed := false },
    patterns := [], gens := numbered 4 Generator.reset,
    house := { state := .preset, held := false, heldTime := 0, tickDiv := 0 },
    clock := { selecting := true, source := .internal, wclk := false, switching := false, divInt := 520,
               divFrac := 54613, acc := 0, period := 520 },
    status := { events := 0, mask := 0, clipped := 0, rampOverflow := 0, actionSkipped := 0, underrun := 0 },
    lines := numbered 12 Line.reset, settings := Settings.reset, response := [0x00, 0x00, 0x00, 0x00, 0xD1],
    mix := Mix.silent, ports := OutPorts.silent, agenda := [], pending := [] }

end Sys2Proof.Machine
end

