-- ==== Sys2Proof/Machine/Table.lean ====
section
/-! DEFINITION. Operations on tables: lists of key and record in strictly rising key order. -/

namespace Sys2Proof

/-- The record at a key. -/
def Table.get {α : Type} : Table α → Nat → Option α
  | [], _ => none
  | (k, a) :: t, n => if k = n then some a else Table.get t n

/-- Is a record present at the key? -/
def Table.has {α : Type} (t : Table α) (n : Nat) : Bool := (Table.get t n).isSome

/-- The table with the record at the key written, created in its place if absent. -/
def Table.put {α : Type} (t : Table α) (n : Nat) (a : α) : Table α :=
  match t with
  | [] => [(n, a)]
  | (k, b) :: t =>
    if n < k then (n, a) :: (k, b) :: t
    else if n = k then (n, a) :: t
    else (k, b) :: Table.put t n a

/-- The table without the key. -/
def Table.erase {α : Type} (t : Table α) (n : Nat) : Table α :=
  match t with
  | [] => []
  | (k, b) :: t => if k = n then t else (k, b) :: Table.erase t n

/-- The table with the record at the key changed, as it is where the key is absent. -/
def Table.update {α : Type} (t : Table α) (n : Nat) (f : α → α) : Table α :=
  match t with
  | [] => []
  | (k, b) :: t => if k = n then (k, f b) :: t else (k, b) :: Table.update t n f

/-- The table with every record changed. -/
def Table.mapRecords {α β : Type} (t : Table α) (f : Nat → α → β) : Table β :=
  t.map fun kb => (kb.1, f kb.1 kb.2)

/-- The keys present, in rising order. -/
def Table.keys {α : Type} (t : Table α) : List Nat := t.map Prod.fst

/-- The first record whose key is above `n`. -/
def Table.above {α : Type} (t : Table α) (n : Nat) : Option (Nat × α) := t.find? fun kb => n < kb.1

/-- Keys strictly rising: the one canonical form of a table. -/
def Table.sorted {α : Type} : Table α → Bool
  | [] => true
  | [_] => true
  | (k, _) :: (l, b) :: t => k < l && Table.sorted ((l, b) :: t)

/-- The lowest of `lo`, `lo + 1`, … (`n` of them) that is no key of the table. -/
def Table.lowestFree {α : Type} (t : Table α) (lo : Nat) : Nat → Option Nat
  | 0 => none
  | n + 1 => if Table.has t lo then Table.lowestFree t (lo + 1) n else some lo

/-- A number placed in a rising list of numbers, once. -/
def insertOnce (n : Nat) : List Nat → List Nat
  | [] => [n]
  | k :: ks => if n < k then n :: k :: ks else if n = k then k :: ks else k :: insertOnce n ks

/-- A list placed in order by a comparison, equal items in the order they stood. -/
def insertBy {α : Type} (before : α → α → Bool) (a : α) : List α → List α
  | [] => [a]
  | b :: bs => if before a b then a :: b :: bs else b :: insertBy before a bs

def sortBy {α : Type} (before : α → α → Bool) (as : List α) : List α :=
  as.foldl (fun sorted a => insertBy before a sorted) []

/-- The largest of a list of numbers, 0 for none. -/
def largest (ns : List Nat) : Nat := ns.foldl max 0

/-- The sum of a list of numbers. -/
def total (ns : List Nat) : Nat := ns.foldl (· + ·) 0

end Sys2Proof
end

