-- ==== Sys2Proof/Machine/Flags.lean ====
section
/-! DEFINITION. The status and event unit's flags and counters, and the agenda of events that are due. -/

namespace Sys2Proof.Machine

/-- The event flags, by the number section 11.6 gives each. -/
inductive EventFlag where
  | clipped
  | rampOverflow
  | packChanged
  | swapped
  | actionSkipped
  | stale
  | fired
  | endOfList
  | goIgnored
  | runCollapsed
  | branchMissing
  | chaseChanged
  | voiceStolen
  | underrun
  | callDone
  | callDropped
  | chimeSkipped
  | houseChanged
  | clockChanged
deriving DecidableEq, Repr

/-- The bit of a flag in the 32-bit value (section 11.6). -/
def EventFlag.bit : EventFlag → Nat
  | .clipped => 0
  | .rampOverflow => 1
  | .packChanged => 2
  | .swapped => 3
  | .actionSkipped => 4
  | .stale => 5
  | .fired => 6
  | .endOfList => 7
  | .goIgnored => 8
  | .runCollapsed => 9
  | .branchMissing => 10
  | .chaseChanged => 11
  | .voiceStolen => 12
  | .underrun => 13
  | .callDone => 14
  | .callDropped => 15
  | .chimeSkipped => 16
  | .houseChanged => 17
  | .clockChanged => 18

/-- The 32-bit value with one bit set. -/
def bitAt (n : Nat) : BitVec 32 := 1#32 <<< n

/-- The bits of the flags that are assigned: 0 to 18 (section 11.6). -/
def assignedFlags : BitVec 32 := 0x0007FFFF#32

/-- An event flag raised; it stays set until it is cleared (R194). -/
def State.raise (f : EventFlag) (s : State) : State :=
  { s with status := { s.status with events := s.status.events ||| bitAt f.bit } }

/-- Is an event flag set? -/
def State.raised (s : State) (f : EventFlag) : Bool := s.status.events.getLsbD f.bit

/-- A counter that rises and stays at 65535 (section 11.3). -/
def saturate (n : Nat) : Nat := min n 65535

/-- The CLIPPED counter and flag for `n` limited samples (R5). -/
def State.countClipped (n : Nat) (s : State) : State :=
  if n = 0 then s
  else
    (s.raise .clipped) |> fun t =>
      { t with status := { t.status with clipped := saturate (t.status.clipped + n) } }

/-- RAMP_OVERFLOW counted and raised (R11). -/
def State.countOverflow (s : State) : State :=
  (s.raise .rampOverflow) |> fun t =>
    { t with status := { t.status with rampOverflow := saturate (t.status.rampOverflow + 1) } }

/-- A skipped action: the ACTION_SKIPPED flag and counter (R55). -/
def State.skipAction (s : State) : State :=
  (s.raise .actionSkipped) |> fun t =>
    { t with status := { t.status with actionSkipped := saturate (t.status.actionSkipped + 1) } }

/-- The UNDERRUN flag and counter for one zero sample (R113). -/
def State.countUnderrun (s : State) : State :=
  (s.raise .underrun) |> fun t =>
    { t with status := { t.status with underrun := saturate (t.status.underrun + 1) } }

/-- An event put on the agenda, once. -/
def State.enqueue (e : Event) (s : State) : State :=
  if e ∈ s.agenda then s else { s with agenda := s.agenda ++ [e] }

/-- An event put on the agenda if a condition holds. -/
def State.enqueueIf (c : Bool) (e : Event) (s : State) : State := if c then s.enqueue e else s

/-- An event taken off the agenda. -/
def State.unqueue (e : Event) (s : State) : State := { s with agenda := s.agenda.erase e }

end Sys2Proof.Machine
end

