-- ==== Sys2Proof/Machine/Levels.lean ====
section
/-! DEFINITION. The arithmetic of levels and ramps: R1 to R3, R5, R8, R13, R14 and R20. -/

namespace Sys2Proof.Machine

/-- The fine units of one code. -/
def codeUnits : Nat := 65536

/-- The fine level of a whole code (R8). -/
def fineOf (code : Nat) : Nat := code * 65536

/-- The floor code, 15 doublings below unity (00_scope.md, "Level codes"). -/
def floorCode : Nat := 600

/-- The audible code of a fine level (R8). -/
def audible (fine : Nat) : Nat := (fine + 32768) / 65536

/-- The multipliers of R1, by step 0 to 23. -/
def multipliers : List Nat :=
  [32768, 33728, 34716, 35734, 36781, 37859, 38968, 40110, 41285, 42495, 43740, 45022,
   46341, 47699, 49097, 50535, 52016, 53540, 55109, 56724, 58386, 60097, 61858, 63670]

/-- The exponent e of a code (R1). -/
def exponent (c : Nat) : Nat := c / 24

/-- The multiplier M of a code (R1). -/
def multiplier (c : Nat) : Nat := multipliers.getD (c % 24) 0

/-- The contribution of a sample at a combined code; off forms none (R2). -/
def contribution (s : Int) (c : Nat) : Int :=
  if c = 0 then 0
  else (s * multiplier c + 2 ^ (55 - exponent c - 1)) / 2 ^ (55 - exponent c)

/-- The combined code of level terms and attenuations (R3). -/
def combine (levels attenuations : List Nat) : Nat :=
  if levels.any (· == 0) then 0
  else
    let v : Int := (total levels : Int) - 960 * ((levels.length : Int) - 1) - (total attenuations : Int)
    if v ≤ 0 then 0 else if v > 1023 then 1023 else v.toNat

/-- The largest sample an output sends, 2^23 − 1 (R5). -/
def sampleMax : Int := 8388607

/-- An output sum limited to ±(2^23 − 1) (R5). -/
def limit (x : Int) : Int := if x > sampleMax then sampleMax else if x < -sampleMax then -sampleMax else x

/-- Does limiting change the sum, so that it counts as saturated (R5)? -/
def saturates (x : Int) : Bool := limit x != x

/-- The ramp from `f0` to the fine target `ft` over `n` ticks (R13): q = |D| / n, r = |D| − q n. Where the two are equal
section 1.4 lets the direction be either; the model takes up (log entry 37). -/
def Glide.between (f0 ft n : Nat) (off : Bool) : Glide :=
  let d := if f0 ≤ ft then ft - f0 else f0 - ft
  { target := ft, up := f0 ≤ ft, q := d / n, r := d % n, n := n, acc := 0, left := n, offAtEnd := off }

/-- A new ramp of `n` ticks on a level element that stands at `f0`, to the code `t`: the fine level it starts
at and the ramp, under the floor rule (R13). -/
def levelGlide (f0 t n : Nat) : Nat × Glide :=
  if t = 0 then (f0, Glide.between f0 (min (fineOf floorCode) f0) n true)
  else
    let start := if f0 = 0 then fineOf (min floorCode t) else f0
    (start, Glide.between start (fineOf t) n false)

/-- A new ramp on an attenuation element: a straight line, no floor, no off at end (R13, R20). -/
def attenuationGlide (f0 t n : Nat) : Nat × Glide := (f0, Glide.between f0 (fineOf t) n false)

/-- One step of a ramp: the ramp after it and the element's fine level after it (R14). -/
def Glide.step (g : Glide) (f : Nat) : Glide × Nat :=
  let carry := if g.acc + g.r ≥ g.n then 1 else 0
  let acc := if g.acc + g.r ≥ g.n then g.acc + g.r - g.n else g.acc + g.r
  let moved := g.q + carry
  ({ g with acc := acc, left := g.left - 1 }, if g.up then f + moved else f - moved)

/-- Where a ramp ends: its fine target, or off when marked off at end (R15, R19). -/
def Glide.finish (g : Glide) : Nat := if g.offAtEnd then 0 else g.target

/-- One tick of a built-in level term (section 1.5); a term with no ramp holds. The ramp stays, with no ticks
remaining, for the event that ends it. -/
def Term.step (t : Term) : Term :=
  match t.glide with
  | none => t
  | some g => if g.left = 0 then t else { fine := (g.step t.fine).2, glide := some (g.step t.fine).1 }

/-- Has the built-in ramp of a term run its ticks? -/
def Term.due (t : Term) : Bool :=
  match t.glide with
  | none => false
  | some g => g.left == 0

/-- A built-in term moved to a code over `n` ticks with the arithmetic of R13. -/
def Term.move (t : Term) (code n : Nat) : Term :=
  { fine := (levelGlide t.fine code n).1, glide := some (levelGlide t.fine code n).2 }

/-- A built-in term brought to the end of its ramp. -/
def Term.finish (t : Term) : Term :=
  match t.glide with
  | none => t
  | some g => { fine := g.finish, glide := none }

end Sys2Proof.Machine
end

