-- ==== Sys2Proof/Machine/Ops.lean ====
section
/-! DEFINITION. Shared operations on the state: reading and changing one record, gain elements, the ramp pool's
entries, and the views of the state the spec names (counts, gauges, levels of lines). -/

namespace Sys2Proof.Machine

/-! ### One record at a time -/

def State.setVoice (v : Nat) (f : Voice → Voice) (s : State) : State :=
  { s with voices := s.voices.update v f }

def State.setOutput (o : Nat) (f : Foldback → Foldback) (s : State) : State :=
  { s with outputs := s.outputs.update o f }

def State.setProgramme (p : Nat) (f : Programme → Programme) (s : State) : State :=
  { s with programmes := s.programmes.update p f }

def State.setZone (z : Nat) (f : Zone → Zone) (s : State) : State := { s with zones := s.zones.update z f }

def State.setPack (p : Nat) (f : Pack → Pack) (s : State) : State := { s with packs := s.packs.update p f }

def State.setCall (c : Nat) (f : Call → Call) (s : State) : State :=
  { s with relay := { s.relay with calls := s.relay.calls.update c f } }

def State.setGen (g : Nat) (f : Generator → Generator) (s : State) : State :=
  { s with gens := s.gens.update g f }

def State.setRun (r : Nat) (f : Run → Run) (s : State) : State :=
  { s with cue := { s.cue with runs := s.cue.runs.update r f } }

def State.setLine (l : Nat) (f : Line → Line) (s : State) : State := { s with lines := s.lines.update l f }

/-- The voice record; an IDLE voice where there is none. -/
def State.voice (s : State) (v : Nat) : Voice := (s.voices.get v).getD Voice.reset

def State.output (s : State) (o : Nat) : Foldback := (s.outputs.get o).getD Foldback.reset

def State.gen (s : State) (g : Nat) : Generator := (s.gens.get g).getD Generator.reset

def State.line (s : State) (l : Nat) : Line := (s.lines.get l).getD Line.reset

def State.call (s : State) (c : Nat) : Option Call := s.relay.calls.get c

/-! ### Ingredients -/

/-- The live ingredient of a source, if the recipe holds it. -/
def ingredientOf (live : List Ingredient) (src : Source) : Option Ingredient := live.find? (·.src == src)

/-- The recipe with the ingredient of a source changed. -/
def changeIngredient (src : Source) (f : Ingredient → Ingredient) (live : List Ingredient) : List Ingredient :=
  live.map fun i => if i.src = src then f i else i

def State.setIngredient (o : Nat) (src : Source) (f : Ingredient → Ingredient) (s : State) : State :=
  s.setOutput o fun b => { b with live := changeIngredient src f b.live }

/-! ### Gain elements (section 1.3) -/

/-- The fine level of a gain element, 0 where the thing it lives in is absent (R8). -/
def State.fine (s : State) : Element → Nat
  | .voice v => (s.voice v).level
  | .ingredient o src =>
    match ingredientOf (s.output o).live src with
    | some i => i.level
    | none => 0
  | .foldbackMaster o => (s.output o).master
  | .stageDuck o => (s.output o).duck
  | .programmeMaster p => ((s.programmes.get p).map Programme.master).getD 0
  | .zoneFeed z => ((s.zones.get z).map Zone.level).getD 0
  | .zoneDuck z => ((s.zones.get z).map Zone.duck).getD 0
  | .protect n => (s.protect.get n).getD 0

/-- The state with the fine level of a gain element set. -/
def State.setFine (el : Element) (f : Nat) (s : State) : State :=
  match el with
  | .voice v => s.setVoice v fun x => { x with level := f }
  | .ingredient o src => s.setIngredient o src fun i => { i with level := f }
  | .foldbackMaster o => s.setOutput o fun b => { b with master := f }
  | .stageDuck o => s.setOutput o fun b => { b with duck := f }
  | .programmeMaster p => s.setProgramme p fun x => { x with master := f }
  | .zoneFeed z => s.setZone z fun x => { x with level := f }
  | .zoneDuck z => s.setZone z fun x => { x with duck := f }
  | .protect n => { s with protect := s.protect.update n fun _ => f }

/-- Is the element an attenuation (section 1.3)? -/
def Element.isAttenuation : Element → Bool
  | .stageDuck _ => true
  | .zoneDuck _ => true
  | .protect _ => true
  | _ => false

/-- The pool entry of the ramp active on an element (R10: there is at most one). -/
def State.rampOn (s : State) (el : Element) : Option (Nat × Ramp) := s.ramps.find? (·.2.element == el)

/-- The ramp on an element removed, its entry freed and its completion action discarded (R9, R12). -/
def State.dropRamp (el : Element) (s : State) : State :=
  match s.rampOn el with
  | none => s
  | some (e, _) => { s with ramps := s.ramps.erase e }

/-- An element set at once to a fine level, any ramp on it removed (R12). -/
def State.snapTo (el : Element) (f : Nat) (s : State) : State := (s.dropRamp el).setFine el f

/-- Is a live ingredient departing: does its level carry a remove-ingredient ramp (R120)? -/
def State.departing (s : State) (o : Nat) (src : Source) : Bool :=
  match s.rampOn (.ingredient o src) with
  | none => false
  | some (_, r) => r.action == some (.removeIngredient o src)

/-- An ingredient leaves the live recipe, the ones after it closing up; its element and any ramp on it cease
(R9, R15). -/
def State.removeIngredient (o : Nat) (src : Source) (s : State) : State :=
  (s.dropRamp (.ingredient o src)).setOutput o fun b => { b with live := b.live.filter (·.src != src) }

/-! ### The house state and HOLD -/

def State.inDark (s : State) : Bool := s.house.state == .dark

/-- HOLD is present while the HOLD line is active or the HOLD request is in force (R71). -/
def State.holdPresent (s : State) : Bool := s.cue.holdLine || s.cue.holdRequest

/-! ### Lines -/

/-- GO to PTT are the input functions (section 11.4). -/
def LineFunction.isInput : LineFunction → Bool
  | .go => true
  | .hold => true
  | .stop => true
  | .resume => true
  | .evac => true
  | .wake => true
  | .ptt => true
  | _ => false

/-- An input line is live while its function is an input function and its input enable is yes (R195). -/
def Line.live (l : Line) : Bool := l.function.isInput && l.enabled

/-- Does a pin level match the polarity (section 11.4)? -/
def Line.pinActive (l : Line) (pin : Bool) : Bool := pin != l.activeLow

/-- Is any live line of a function active after debounce (R175, R196)? -/
def State.lineLevel (s : State) (f : LineFunction) : Bool :=
  s.lines.any fun kl => kl.2.live && kl.2.function == f && kl.2.active

/-! ### Role resolution (R28) -/

/-- The input channel a role resolves to, or unresolved (R28). -/
def State.resolve (s : State) (role : Nat) : Option Nat := do
  let r ← s.roles.get role
  let p ← s.performers.get (← r.performer)
  let k ← s.packs.get (← p.primary)
  pure k.channel

/-- The channel of a live ingredient that joins now: a role's, and none for other sources (R121). -/
def State.joinChannel (s : State) : Source → Option Nat
  | .role k => s.resolve k
  | _ => none

/-- A new live ingredient at off, a ROLE one resolved at this moment (R121). -/
def State.newIngredient (s : State) (src : Source) : Ingredient :=
  { src := src, level := 0, channel := s.joinChannel src, rebind := Term.unity, outgoing := none }

/-- The performer and slot that name a pack: false for primary, true for spare (R25). -/
def State.namedBy (s : State) (pack : Nat) : Option (Nat × Bool) :=
  match s.performers.find? fun kp => kp.2.primary == some pack || kp.2.spare == some pack with
  | none => none
  | some (k, p) => some (k, p.primary != some pack)

/-! ### Reference counts and gauges: views of the records (log entry 8) -/

/-- How many records of a table satisfy a test. -/
def countIn {α : Type} (t : Table α) (p : α → Bool) : Nat := (t.filter fun ka => p ka.2).length

/-- How many actions of the cue list satisfy a test. -/
def State.countActions (s : State) (p : ActionKind → Bool) : Nat :=
  total (s.cues.map fun kc => (kc.2.actions.filter fun a => p a.kind).length)

/-- The reference count of a role (R30). -/
def State.roleCount (s : State) (r : Nat) : Nat :=
  total (s.outputs.map fun kb => (kb.2.live.filter fun i => i.src == .role r).length) +
    total (s.outputs.map fun kb => ((kb.2.pending.getD []).filter fun i => i.src == .role r).length) +
    s.countActions fun a => match a with
      | .ingredient _ src _ _ => src == .role r
      | _ => false

/-- The reference count of a performer (R31). -/
def State.performerCount (s : State) (p : Nat) : Nat := countIn s.roles fun r => r.performer == some p

/-- Does a voice hold a clip, as the playback it sounds or as a pending playback (R100)? -/
def Voice.holds (v : Voice) (k : Nat) : Bool := v.clip == some k || (v.pending.map PendingPlay.clip) == some k

/-- The reference count of a clip (R100). -/
def State.clipCount (s : State) (k : Nat) : Nat :=
  (s.countActions fun a => match a with
    | .play c _ _ _ _ _ => c == k
    | .call _ c _ _ => c == k
    | _ => false) +
    countIn s.relay.calls (fun c => c.kind == .clip (some k)) +
    (if s.settings.evacClip = some k then 1 else 0) + countIn s.voices fun v => v.holds k

/-- The reference count of a pattern (R163). -/
def State.patternCount (s : State) (k : Nat) : Nat :=
  (s.countActions fun a => match a with
    | .call _ _ p _ => p == some k
    | _ => false) +
    countIn s.relay.calls (fun c => c.pattern == some k) +
    (if s.settings.evacPattern = some k then 1 else 0)

/-- The reference count of a zone (R138). -/
def State.zoneCount (s : State) (z : Nat) : Nat :=
  countIn s.performers (fun p => p.room == some z) + countIn s.groups (fun g => g.members.contains z) +
    countIn s.relay.calls (fun c => c.entries.has z) +
    (s.countActions fun a => match a with
      | .call t _ _ _ => t == .zone z
      | _ => false) +
    (if s.settings.defaultZone = z then 1 else 0)

/-- Actions held by the cues of the list (R49). -/
def State.actionsHeld (s : State) : Nat := total (s.cues.map fun kc => kc.2.actions.length)

/-- Free entries of the action pool (R49). -/
def State.actionsFree (s : State) : Nat := 8192 - s.actionsHeld

/-- Voices not IDLE (R116). -/
def State.voicesBusy (s : State) : Nat := countIn s.voices fun v => v.state != .idle

/-! ### Responses (R189, R190) -/

/-- The status codes of section 11.6. -/
inductive Status where
  | ok
  | noSuch
  | exists
  | full
  | inUse
  | badField
  | wrongState
  | noNumber
  | badFrame
  | unknownRequest
deriving DecidableEq, Repr

def Status.code : Status → Byte
  | .ok => 0x00
  | .noSuch => 0x01
  | .exists => 0x02
  | .full => 0x03
  | .inUse => 0x04
  | .badField => 0x05
  | .wrongState => 0x06
  | .noNumber => 0x07
  | .badFrame => 0x08
  | .unknownRequest => 0x09

end Sys2Proof.Machine
end

