-- ==== Sys2Proof/Machine/Voices.lean ====
section
/-! DEFINITION. The voice unit (chapter 6): gates, playback order, refill requests, taking, stealing, beginning,
ending and releasing a voice. What moves a level is in Ramps.lean; what sounds is in Sound.lean. -/

namespace Sys2Proof.Machine

/-! ### Gates (R21) -/

/-- A close request: a gate OPEN or OPENING starts 10 ticks toward off; others ignore it. -/
def Gate.close (g : Gate) : Gate :=
  match g.state with
  | .opened => { state := .closing, term := g.term.move 0 10 }
  | .opening => { state := .closing, term := g.term.move 0 10 }
  | .closing => g
  | .closed => g

/-- An open request: a gate CLOSED or CLOSING starts 10 ticks toward 960; others ignore it. -/
def Gate.open (g : Gate) : Gate :=
  match g.state with
  | .closed => { state := .opening, term := g.term.move 960 10 }
  | .closing => { state := .opening, term := g.term.move 960 10 }
  | .opening => g
  | .opened => g

/-- A gate brought to the end of its ramp (R19). -/
def Gate.finish (g : Gate) : Gate :=
  match g.state with
  | .closing => { state := .closed, term := ⟨0, none⟩ }
  | .opening => Gate.atOpen
  | .opened => g
  | .closed => g

/-! ### Playback order (R106, R111) -/

/-- The loops remaining a playback starts with, from its clip and loop count (R104). -/
def startLoops (c : Clip) (n : Nat) : Loops :=
  if c.loop.isNone then .none else if n = 0 then .endless else .count n

/-- The place after the sample at a place, in playback order (R106). -/
def Clip.advance (c : Clip) (at_ : Cursor) : Cursor :=
  match c.loop with
  | none => { at_ with index := at_.index + 1 }
  | some (first, last) =>
    if at_.index + 1 = last then
      match at_.loops with
      | .endless => ⟨first, .endless⟩
      | .count n => if n - 1 > 0 then ⟨first, .count (n - 1)⟩ else ⟨last, .done⟩
      | .none => ⟨last, .none⟩
      | .done => ⟨last, .done⟩
    else { at_ with index := at_.index + 1 }

/-- Up to `n` sample indexes from a place, in playback order, and the place after them (R111). -/
def Clip.plan (c : Clip) : Nat → Cursor → List Nat × Cursor
  | 0, at_ => ([], at_)
  | n + 1, at_ =>
    if c.length ≤ at_.index then ([], at_)
    else (at_.index :: (c.plan n (c.advance at_)).1, (c.plan n (c.advance at_)).2)

/-- The unbroken runs of sample indexes that a refill covers, each by its first index and its length (R112). -/
def indexRuns : List Nat → List (Nat × Nat)
  | [] => []
  | a :: rest =>
    match indexRuns rest with
    | [] => [(a, 1)]
    | (b, n) :: runs => if b = a + 1 then (a, n + 1) :: runs else (a, 1) :: (b, n) :: runs

/-- The address the flash is sent for a byte: 32 bits with the top four 0 (R112). One past 268,435,455, which a clip near
the end of the address range reaches, is sent as its low 28 bits (log entry 36). -/
def flashAddress (address : Nat) : Nat := address % 2 ^ 28

/-- The reads of a refill of a clip: one for each unbroken run, of 24 bits for each sample (R112). -/
def Clip.reads (c : Clip) (indexes : List Nat) : List FlashRead :=
  (indexRuns indexes).map fun run =>
    { command := 0x13, address := BitVec.ofNat 32 (flashAddress (c.start + 3 * run.1)), samples := run.2 }

/-- The flash clock periods of a refill: 40 for the command and address of each read and 24 for each sample (R112). -/
def readClocks (reads : List FlashRead) : Nat := total (reads.map fun r => 40 + 24 * r.samples)

/-! ### Refills -/

/-- Any refill in flight for a voice disowned (R104, R108). -/
def State.disown (v : Nat) (s : State) : State :=
  { s with voiceUnit := { s.voiceUnit with
      refill := s.voiceUnit.refill.map fun r => if r.voice = v then { r with disowned := true } else r } }

/-- Is a refill of the voice's own in flight? -/
def State.refilling (s : State) (v : Nat) : Bool :=
  match s.voiceUnit.refill with
  | none => false
  | some r => r.voice == v && !r.disowned

/-- Is a voice CLOSING after a steal with its gate CLOSED, its old playback over but for the RESUME it waits for (R103)? -/
def Voice.closedForSteal (x : Voice) : Bool :=
  x.state == .closing && x.cause == some .steal && x.gate.state == .closed

/-- Does the voice request a refill now (R111)? A stolen voice requests for its old playback until its gate closes. -/
def State.wantsRefill (s : State) (v : Nat) : Bool :=
  let x := s.voice v
  match x.clip.bind s.clips.get with
  | none => false
  | some c =>
    x.state != .idle && !x.closedForSteal && x.buffer.length ≤ 128 && !x.requested && !s.refilling v && x.cursor.index < c.length

/-- The voice's request for a refill, if it makes one; an idle port outside DARK grants at once (R111, R112). A voice is asked as
its playback begins, in each sample period and as its own refill completes, not at a release (log entry 48). -/
def State.requestRefill (v : Nat) (s : State) : State :=
  if s.wantsRefill v then
    (s.setVoice v fun x => { x with requested := true }).enqueueIf
      (s.voiceUnit.refill.isNone && !s.inDark) .refillGrant
  else s

/-! ### Start orders, IDLE voices, the waiting list -/

/-- The start order counter risen by one: 48 bits (section 6.2). -/
def State.nextStart (s : State) : State :=
  { s with voiceUnit := { s.voiceUnit with startOrder := (s.voiceUnit.startOrder + 1) % 2 ^ 48 } }

/-- The lowest-numbered IDLE voice. -/
def State.idleVoice (s : State) : Option Nat := (s.voices.find? (·.2.state == .idle)).map Prod.fst

/-- The CUE-owned voice with the lowest start order (R102). -/
def State.oldestCueVoice (s : State) : Option Nat :=
  (((s.voices.filter fun kv => kv.2.owner == .cue).foldl
    (fun (best : Option (Nat × Nat)) kv =>
      match best with
      | none => some (kv.1, kv.2.startOrder)
      | some (k, o) => if kv.2.startOrder < o then some (kv.1, kv.2.startOrder) else some (k, o)) none)).map
    Prod.fst

/-- The call that a waiting request serves first: highest priority, then earliest creation (R105). -/
def State.firstWaiting (s : State) : Option Nat :=
  ((s.voiceUnit.waiting.foldl
    (fun (best : Option (Nat × Nat × Nat)) id =>
      match s.call id, best with
      | none, b => b
      | some c, none => some (id, c.priority, c.order)
      | some c, some (k, p, o) =>
        if p < c.priority || (p == c.priority && c.order < o) then some (id, c.priority, c.order)
        else some (k, p, o)) none)).map Prod.fst

/-- The clip of a call, if it has one. -/
def Call.clip (c : Call) : Option Nat :=
  match c.kind with
  | .clip k => k
  | .live _ => none

/-! ### Beginning a playback (R104) -/

/-- The part of R104 common to every beginning: PLAYING from sample 0 with an empty buffer and an OPEN gate,
the level at off as a snap. The tag and the start order stay as the take gave them. -/
def State.beginBase (v clip : Nat) (route : List Nat) (owner : VoiceOwner) (loops : Loops) (s : State) : State :=
  (((s.disown v).dropRamp (.voice v)).setVoice v fun x =>
    { x with
      state := .playing, owner := owner, clip := some clip, position := 0, loops := loops, level := 0,
      gate := Gate.atOpen, route := route, primed := false, buffer := [], cursor := ⟨0, loops⟩,
      pending := none, cause := none, tail := 0, requested := false })

/-- A call voice begins its message: no loops, no route, level off, and the first refill requested (R104). -/
def State.beginMessage (v id clip : Nat) (s : State) : State :=
  (s.beginBase v clip [] (.call id) .none).requestRefill v

/-- The IDLE voice `v` taken for a call: a new start order, no tag, and the message begun (R105). -/
def State.giveVoice (v id clip : Nat) (s : State) : State :=
  let t := s.nextStart
  ((t.setVoice v fun x => { x with startOrder := t.voiceUnit.startOrder, tag := none }).beginMessage v id clip).setCall
    id fun c => { c with voice := .held v }

/-- A voice that has become IDLE given at once to the waiting list (R105). -/
def State.serveWaiting (v : Nat) (s : State) : State :=
  match s.firstWaiting with
  | none => s
  | some id =>
    let t := { s with voiceUnit := { s.voiceUnit with waiting := s.voiceUnit.waiting.erase id } }
    match (s.call id).bind Call.clip with
    | none => t
    | some k => t.giveVoice v id k

/-- The voice's record when its playback has ended (R108). Fields R108 does not name stay, but for a refill request that still
waits, which lapses, and the tail (log entry 20). -/
def Voice.ended (x : Voice) : Voice :=
  { x with
    state := .idle, owner := .none, tag := none, clip := none, level := 0, gate := Gate.atOpen, route := [],
    primed := false, buffer := [], pending := none, cause := none, tail := 0, requested := false }

/-- A playback ends: the voice is IDLE, its hold, level ramp and refill gone (R108), and the waiting list is
served. -/
def State.endVoice (v : Nat) (s : State) : State :=
  (((s.disown v).dropRamp (.voice v)).setVoice v Voice.ended).serveWaiting v

/-! ### Stealing (R103) -/

/-- A steal: new owner and start order, the tag given, a pending playback, CLOSING with cause STEAL, a close
request to the gate, VOICE_STOLEN. A pending playback already there is dropped. -/
def State.steal (v : Nat) (p : PendingPlay) (tag : Option Nat) (s : State) : State :=
  let t := s.nextStart
  (t.setVoice v fun x =>
    { x with
      state := .closing, owner := p.owner, tag := tag, startOrder := t.voiceUnit.startOrder, pending := some p,
      cause := some .steal, gate := x.gate.close }).raise .voiceStolen

/-! ### VOICE_RELEASE (R107) -/

/-- Samples from `position` up to the loop end, and the loop end, where the loops remaining are ENDLESS or a
count. -/
def toLoopEnd (c : Clip) (x : Voice) : Option (Nat × Nat) :=
  match c.loop, x.loops with
  | some (_, last), .endless => some (last - x.position, last)
  | some (_, last), .count _ => some (last - x.position, last)
  | _, _ => none

/-- How many samples a refill in flight for the voice still brings it. -/
def State.inFlight (s : State) (v : Nat) : Nat :=
  match s.voiceUnit.refill with
  | none => 0
  | some r => if r.voice = v && !r.disowned then min r.keep r.addresses.length - r.passed else 0

/-- A release of a voice: of its pending playback's loops if it has one; else loops remaining 1, and the
buffer, the refill in flight and the fetch cursor cut back at the first loop end, so that what has been sounded of a tail is
no more than the cut buffer holds (R107). DESIGN CHOICE, unsafe: R111 leaves open when the request is made that a release gives
rise to, by a cut to 128 samples or fewer or a cursor moved back from the end; the model makes none here but at the voice's next
sample period, or as its own refill in flight completes where that is sooner (log entry 48). -/
def State.releaseLoop (v : Nat) (s : State) : State :=
  let x := s.voice v
  match x.pending with
  | some p =>
    let loops := match p.loops with
      | .endless => Loops.count 1
      | .count _ => Loops.count 1
      | l => l
    s.setVoice v fun y => { y with pending := some { p with loops := loops } }
  | none =>
    match (x.clip.bind s.clips.get).bind (toLoopEnd · x) with
    | none => s
    | some (ahead, last) =>
      let fetched := x.buffer.length + s.inFlight v
      let cursor : Cursor := if fetched < ahead then ⟨x.cursor.index, .count 1⟩ else ⟨last, .done⟩
      let t := s.setVoice v fun y =>
        { y with loops := .count 1, buffer := y.buffer.take ahead, tail := min y.tail ahead, cursor := cursor }
      { t with voiceUnit := { t.voiceUnit with
          refill := t.voiceUnit.refill.map fun r =>
            if r.voice = v && !r.disowned then
              { r with keep := min r.keep (r.passed + (ahead - x.buffer.length)) }
            else r } }

/-! ### Parking (R109) -/

/-- A CUE-owned voice parked: PLAYING becomes PAUSED, sounding its tail under a closing gate; CLOSING for a
steal sounds its tail from its held position, and one closing for an end goes on with its tail. -/
def Voice.park (x : Voice) : Voice :=
  if x.owner = .cue then
    match x.state with
    | .playing => { x with state := .paused, tail := 0, gate := x.gate.close }
    | .closing => if x.cause = some .ending then x else { x with tail := 0 }
    | .paused => x
    | .idle => x
  else x

def State.parkVoices (s : State) : State := { s with voices := s.voices.mapRecords fun _ x => x.park }

/-! ### Refill grants and completions (R111, R112) -/

/-- The first voice with a request in the order that starts after the last voice served (R112). -/
def State.nextRequest (s : State) : Option Nat :=
  ((List.range 16).map fun i => (s.voiceUnit.lastServed + i) % 16 + 1).find? fun v => (s.voice v).requested

/-- REFILL_GRANT: the idle port grants the next request; the fetch cursor moves past the samples (R111, R112). A
request that has nothing left to fetch, its cursor having been moved to the end since, is dropped; one whose voice has closed
for a steal since stands, and is granted (log entry 41). -/
def State.grantRefill (s : State) : State :=
  if s.voiceUnit.refill.isSome || s.inDark then s
  else
    match s.nextRequest with
    | none => s
    | some v =>
      let x := s.voice v
      let t := s.setVoice v fun y => { y with requested := false }
      match x.clip.bind s.clips.get with
      | none => t.enqueueIf t.nextRequest.isSome .refillGrant
      | some c =>
        let cells := (c.plan 128 x.cursor).1
        if cells.isEmpty then t.enqueueIf t.nextRequest.isSome .refillGrant
        else
          let u := t.setVoice v fun y => { y with cursor := (c.plan 128 x.cursor).2 }
          let r : Refill :=
            { voice := v, addresses := cells.map fun i => flashAddress (c.start + 3 * i), reads := c.reads cells,
              disowned := false, keep := cells.length, passed := 0, clocks := readClocks (c.reads cells),
              divisor := s.settings.clipDivisor }
          { u with voiceUnit := { u.voiceUnit with refill := some r } }

/-- The byte the flash returned for the `i`th byte of a refill, at an address: the operand's, or what the fitted
flash holds there (log entry 17). -/
def refillByte (data : Bytes) (i address : Nat) : Byte :=
  match data[i]? with
  | some b => b
  | none => Config.flashByte (flashAddress address)

/-- The samples a refill brings: three bytes each, most significant first (section 11.6). -/
def refillSamples (addresses : List Nat) (data : Bytes) : List Sample :=
  addresses.zipIdx.map fun ai =>
    refillByte data (3 * ai.2) ai.1 ++ refillByte data (3 * ai.2 + 1) (ai.1 + 1) ++
      refillByte data (3 * ai.2 + 2) (ai.1 + 2)

/-- REFILL_COMPLETE: the samples join the voice's buffer, less those cut or passed, or none if the refill was
disowned; the voice is the last served and the port idle, and the next grant is made at once (R111, R112). -/
def State.completeRefill (data : Bytes) (s : State) : State :=
  match s.voiceUnit.refill with
  | none => s
  | some r =>
    let brought := if r.disowned then [] else ((refillSamples r.addresses data).take r.keep).drop r.passed
    let t := s.setVoice r.voice fun x => { x with buffer := x.buffer ++ brought }
    let u := { t with voiceUnit := { t.voiceUnit with refill := none, lastServed := r.voice } }
    let w := u.requestRefill r.voice
    w.enqueueIf (w.nextRequest.isSome && !w.inDark) .refillGrant

end Sys2Proof.Machine
end

