-- ==== Sys2Proof/Machine/Ramps.lean ====
section
/-! DEFINITION. The ramp engine (chapter 1): moves, snaps, completions, freeze, drop frozen and complete all, and
what the voice unit does with a move (pending playbacks, gates closing, resume). -/

namespace Sys2Proof.Machine

/-- A completion action performed (R15): each has an effect only if what it names still stands. -/
def State.complete (a : Option Completion) (s : State) : State :=
  match a with
  | none => s
  | some (.stopVoice v order) =>
    if (s.voice v).startOrder = order ∧ (s.voice v).state ≠ .idle then s.endVoice v else s
  | some (.removeIngredient o src) => s.removeIngredient o src

/-- The target of a move as the engine takes it: an attenuation above 480 is taken as 480 (R11). -/
def Move.code (m : Move) : Nat := if m.element.isAttenuation then min m.target 480 else m.target

/-- The length of a move's ramp: its fade time, 600,000 ms at most (R11). -/
def Move.ticks (m : Move) : Nat := min m.fade 600000

/-- A move carried out as a snap, its completion action performed at once (R12). -/
def State.snapMove (m : Move) (s : State) : State :=
  (s.snapTo m.element (fineOf m.code)).complete m.action

/-- The starting fine level and ramp of a move from a fine level (R13, R20). -/
def Move.glide (m : Move) (f0 : Nat) : Nat × Glide :=
  if m.element.isAttenuation then attenuationGlide f0 m.code m.ticks else levelGlide f0 m.code m.ticks

/-- A ramp started in a pool entry: new, or in place of the one there (R13, R16). A CUE ramp started while the
stop context is held starts frozen (R18). -/
def State.startRamp (e : Nat) (m : Move) (s : State) : State :=
  let start := m.glide (s.fine m.element)
  let t := s.setFine m.element start.1
  let r : Ramp :=
    { element := m.element, glide := start.2, owner := m.owner, frozen := m.owner == .cue && s.house.held,
      action := m.action }
  { t with ramps := t.ramps.put e r }

/-- A move taken by the ramp engine: the first case of R11 that applies. -/
def State.engineMove (m : Move) (s : State) : State :=
  if s.inDark || m.ticks == 0 then s.snapMove m
  else
    match s.rampOn m.element with
    | some (e, _) => s.startRamp e m
    | none =>
      match s.ramps.lowestFree 0 128 with
      | some e => s.startRamp e m
      | none => (s.snapMove m).countOverflow

/-- A move issued to an element. One that reaches the level of a voice with a pending playback is held there
(R103); any other is taken by the ramp engine. -/
def State.move (m : Move) (s : State) : State :=
  match m.element with
  | .voice v =>
    match (s.voice v).pending with
    | some p => s.setVoice v fun x => { x with pending := some { p with held := some m } }
    | none => s.engineMove m
  | _ => s.engineMove m

/-- A pending playback begun (R104): for a CUE one, the level at off and then the held move. -/
def State.beginPending (v : Nat) (s : State) : State :=
  match (s.voice v).pending with
  | none => s
  | some p =>
    let t := s.beginBase v p.clip p.route p.owner p.loops
    let u := match p.held with
      | none => t
      | some m => t.engineMove m
    u.requestRefill v

/-! ### Ticks and completions -/

/-- One tick of one pool entry: a ramp that is not frozen steps, and one that has run its ticks is due (R14, R15). -/
def State.stepRamp (s : State) (er : Nat × Ramp) : State :=
  if er.2.frozen || er.2.glide.left == 0 then s
  else
    let next := er.2.glide.step (s.fine er.2.element)
    let t := s.setFine er.2.element next.2
    ({ t with ramps := t.ramps.update er.1 fun r => { r with glide := next.1 } }).enqueueIf
      (next.1.left == 0) (.rampComplete er.1)

def State.stepRamps (s : State) : State := s.ramps.foldl State.stepRamp s

/-- RAMP_COMPLETE: the element at its target or off, the entry freed, the completion action performed (R15). -/
def State.rampComplete (e : Nat) (s : State) : State :=
  match s.ramps.get e with
  | none => s
  | some r =>
    if r.glide.left = 0 then
      (({ s with ramps := s.ramps.erase e }).setFine r.element r.glide.finish).complete r.action
    else s

/-- Freeze: the mark set on every ramp whose owner is CUE (R18). -/
def State.freeze (s : State) : State :=
  { s with ramps := s.ramps.mapRecords fun _ r => if r.owner = .cue then { r with frozen := true } else r }

/-- Unfreeze: the mark cleared on every ramp (R18). -/
def State.unfreeze (s : State) : State :=
  { s with ramps := s.ramps.mapRecords fun _ r => { r with frozen := false } }

/-- Drop frozen: each frozen ramp removed, its element keeping its audible code, its completion discarded (R19). -/
def State.dropFrozen (s : State) : State :=
  let frozen := s.ramps.filter (·.2.frozen)
  let t := frozen.foldl (fun t er => t.setFine er.2.element (fineOf (audible (t.fine er.2.element)))) s
  { t with ramps := t.ramps.filter fun er => !er.2.frozen }

/-- Every built-in ramp at its end: gates, rebind terms, outgoing sides cleared (R19). -/
def State.finishBuiltIn (s : State) : State :=
  { s with
    voices := s.voices.mapRecords fun _ x => { x with gate := x.gate.finish },
    outputs := s.outputs.mapRecords fun _ b =>
      { b with live := b.live.map fun i => { i with rebind := i.rebind.finish, outgoing := none } } }

/-- Complete all: every element at its fine target or off, every entry freed, every built-in ramp at its end, and
each completion action in ascending order of entry (R19). -/
def State.completeAll (s : State) : State :=
  let t := s.ramps.foldl (fun t er => t.setFine er.2.element er.2.glide.finish) s
  let u := ({ t with ramps := [] }).finishBuiltIn
  s.ramps.foldl (fun w er => w.complete er.2.action) u

/-! ### Gates (R21, R103, R110) -/

/-- One tick of a voice's gate; an end of its ramp is due as GATE_CLOSED or GATE_OPENED (R21). -/
def State.stepGate (s : State) (kv : Nat × Voice) : State :=
  let g := { kv.2.gate with term := kv.2.gate.term.step }
  let t := s.setVoice kv.1 fun x => { x with gate := g }
  (t.enqueueIf (g.state == .closing && g.term.due) (.gateClosed kv.1)).enqueueIf
    (g.state == .opening && g.term.due) (.gateOpened kv.1)

def State.stepGates (s : State) : State := s.voices.foldl State.stepGate s

/-- What the voice unit does when a gate has reached CLOSED: a steal's pending playback begins, but waits for
RESUME where the voice is CUE-owned and the stop context held; a stolen voice whose pending playback was dropped
and a voice closing for an end are ended; a PAUSED voice stays (R103, R105, R110). -/
def State.gateIsClosed (v : Nat) (s : State) : State :=
  let x := s.voice v
  match x.state, x.cause with
  | .closing, some .steal =>
    if x.pending.isNone then s.endVoice v
    else if x.owner == .cue && s.house.held then s
    else s.beginPending v
  | .closing, some .ending => s.endVoice v
  | _, _ => s

/-- GATE_CLOSED: the gate reaches off and enters CLOSED, and the voice unit acts on it. -/
def State.gateClosed (v : Nat) (s : State) : State :=
  let g := (s.voice v).gate
  if g.state = .closing ∧ g.term.due then
    (s.setVoice v fun x => { x with gate := { state := .closed, term := ⟨0, none⟩ } }).gateIsClosed v
  else s

/-- GATE_OPENED: the gate reaches 960 and enters OPEN. -/
def State.gateOpened (v : Nat) (s : State) : State :=
  let g := (s.voice v).gate
  if g.state = .opening ∧ g.term.due then s.setVoice v fun x => { x with gate := Gate.atOpen } else s

/-- RESUME of one voice: a CUE-owned PAUSED voice plays on from its held position under an opening gate; a CUE-owned
CLOSING voice advances again, and one already CLOSED begins its pending playback (R110). -/
def State.resumeVoice (s : State) (v : Nat) : State :=
  let x := s.voice v
  if x.owner = .cue then
    match x.state with
    | .paused => s.setVoice v fun y => { y with state := .playing, tail := 0, gate := y.gate.open }
    | .closing =>
      let t := if x.cause = some .ending then s else s.setVoice v fun y => { y with tail := 0 }
      if x.gate.state = .closed then t.gateIsClosed v else t
    | .playing => s
    | .idle => s
  else s

/-- RESUME of every voice. No rule orders them; the model takes them in ascending number, which decides whose held move snaps
where more pending playbacks begin than the pool has free entries (R110, R177; log entry 38). -/
def State.resumeVoices (s : State) : State := s.voices.keys.foldl State.resumeVoice s

/-- END_SHOW from STOPPED on one voice: a CUE-owned PAUSED voice closes for an end; a CUE-owned CLOSING voice with a
pending playback drops it and takes cause END; one whose gate is already CLOSED ends at once (R110). -/
def State.endShowVoice (s : State) (v : Nat) : State :=
  let x := s.voice v
  if x.owner = .cue then
    match x.state with
    | .paused =>
      let t := s.setVoice v fun y => { y with state := .closing, cause := some .ending }
      if x.gate.state = .closed then t.endVoice v else t
    | .closing =>
      let t := s.setVoice v fun y => { y with pending := none, cause := some .ending }
      if x.gate.state = .closed then t.endVoice v else t
    | .playing => s
    | .idle => s
  else s

def State.endShowVoices (s : State) : State := s.voices.keys.foldl State.endShowVoice s

/-! ### Crossfades (R22, R29) -/

/-- A live ingredient's crossfade to a new channel: the present channel goes out over 20 ticks from the rebind
term's level, and the rebind term comes in from off over 20 ticks (R22). In DARK it is set directly (R29). -/
def Ingredient.rebindTo (dark : Bool) (i : Ingredient) (ch : Option Nat) : Ingredient :=
  if dark then { i with channel := ch, rebind := Term.unity, outgoing := none }
  else
    { i with
      channel := ch,
      outgoing := i.channel.map fun old => ⟨old, Term.move ⟨i.rebind.fine, none⟩ 0 20⟩,
      rebind := Term.move ⟨0, none⟩ 960 20 }

/-- A recomputation of every role's resolution: each live ROLE ingredient whose channel is no longer the role's
crossfades (R29). -/
def State.rebindAll (s : State) : State :=
  { s with outputs := s.outputs.mapRecords fun _ b =>
      { b with live := b.live.map fun i =>
          match i.src with
          | .role k => if i.channel = s.resolve k then i else i.rebindTo s.inDark (s.resolve k)
          | _ => i } }

/-- One tick of a live ingredient's crossfade terms; the rebind term comes to rest at 960 (R22). -/
def Ingredient.stepTerms (i : Ingredient) : Ingredient :=
  let r := i.rebind.step
  { i with
    rebind := if r.due then r.finish else r,
    outgoing := i.outgoing.map fun o => { o with term := o.term.step } }

/-- One tick of an output's crossfades; an outgoing term that has run its ticks is due as CROSSFADE_END. -/
def State.stepCrossfades (s : State) (kb : Nat × Foldback) : State :=
  let live := kb.2.live.map Ingredient.stepTerms
  live.foldl
    (fun t i => t.enqueueIf ((i.outgoing.map fun o => o.term.due).getD false) (.crossfadeEnd kb.1 i.src))
    (s.setOutput kb.1 fun b => { b with live := live })

def State.stepAllCrossfades (s : State) : State := s.outputs.foldl State.stepCrossfades s

/-- CROSSFADE_END: the outgoing term reaches off and the outgoing channel is cleared (R22). -/
def State.crossfadeEnd (o : Nat) (src : Source) (s : State) : State :=
  s.setIngredient o src fun i =>
    if (i.outgoing.map fun x => x.term.due).getD false then { i with outgoing := none } else i

end Sys2Proof.Machine
end

