-- ==== Sys2Proof/Machine/Cast.lean ====
section
/-! DEFINITION. The cast table (chapter 2): writes and retirements of roles, performers and packs, pack reports,
the health machine, protection and swaps. -/

namespace Sys2Proof.Machine

/-! ### Protection (R40) -/

/-- A channel's protect moved, owner PROTECT. -/
def State.moveProtect (ch target fade : Nat) (s : State) : State :=
  s.move { element := .protect ch, target := target, fade := fade, owner := .protect, action := none }

def State.protectChannel (ch : Nat) (s : State) : State :=
  s.moveProtect ch s.settings.protectDepth s.settings.protectFade

def State.restoreChannel (ch : Nat) (s : State) : State := s.moveProtect ch 0 s.settings.restoreFade

/-! ### Swaps (R41, R42) -/

/-- A performer's primary and spare exchanged, SWAPPED raised and the roles' resolutions recomputed. -/
def State.swapPacks (k : Nat) (s : State) : State :=
  (({ s with performers := s.performers.update k fun p =>
      { p with primary := p.spare, spare := p.primary } }).raise .swapped).rebindAll

/-- The auto-swap of a pack that enters LOST as a primary: taken if the performer's auto-swap is yes and the spare
is present and GOOD at that moment (R41). -/
def State.autoSwap (pack : Nat) (s : State) : State :=
  match s.namedBy pack with
  | some (k, false) =>
    match s.performers.get k with
    | none => s
    | some p =>
      match p.spare.bind s.packs.get with
      | none => s
      | some spare => if p.autoSwap && spare.health == .good then s.swapPacks k else s
  | _ => s

/-! ### The health machine (R36, R40) -/

/-- A pack enters LOST: progress 0, PACK_CHANGED, its channel protected, and then a possible auto-swap. -/
def State.enterLost (pack : Nat) (s : State) : State :=
  match s.packs.get pack with
  | none => s
  | some k =>
    ((((s.setPack pack fun x => { x with health := .lost, progress := 0 }).raise .packChanged).protectChannel
      k.channel).autoSwap pack)

/-- A pack enters GOOD with a progress: PACK_CHANGED, and its channel restored. -/
def State.enterGood (pack progress : Nat) (s : State) : State :=
  match s.packs.get pack with
  | none => s
  | some k =>
    ((s.setPack pack fun x => { x with health := .good, progress := progress }).raise .packChanged).restoreChannel
      k.channel

/-- A good report starts or goes on with qualification: progress, and GOOD at or above K (R36). -/
def State.qualify (pack progress : Nat) (change : Bool) (s : State) : State :=
  if progress ≥ s.settings.qualifyCount then s.enterGood pack progress
  else
    let t := s.setPack pack fun x => { x with health := .qualifying, progress := progress }
    if change then t.raise .packChanged else t

/-- The table of R36: a taken report moves the pack's health. -/
def State.moveHealth (pack : Nat) (good : Bool) (s : State) : State :=
  match s.packs.get pack with
  | none => s
  | some k =>
    match k.health, good with
    | .unknown, true => s.qualify pack 1 true
    | .lost, true => s.qualify pack 1 true
    | .qualifying, true => s.qualify pack (k.progress + 1) false
    | .good, true => s
    | .lost, false => s
    | _, false => s.enterLost pack

/-- PACK_REPORT taken (R35, R36, R38). -/
def State.takeReport (pack rf battery : Nat) (s : State) : State :=
  match s.packs.get pack with
  | none => s
  | some k =>
    let rf := min rf 15
    let battery := min battery 1023
    let warning := battery < s.settings.batteryThreshold
    let t := s.setPack pack fun x =>
      { x with rf := some rf, battery := some battery, age := 0, warning := warning }
    let u := if k.warning = warning then t else t.raise .packChanged
    u.moveHealth pack (rf ≥ s.settings.rfFloor && battery > 0)

/-- PACK_TIMEOUT: a QUALIFYING or GOOD pack whose age is at or above the report timeout enters LOST (R37); no pack changes
health in DARK (R45). -/
def State.packTimeout (pack : Nat) (s : State) : State :=
  match s.packs.get pack with
  | none => s
  | some k =>
    if s.inDark = false ∧ k.age ≥ s.settings.reportTimeout ∧ (k.health = .qualifying ∨ k.health = .good) then
      s.enterLost pack
    else s

/-- One tick of a pack's age, saturating at 10,000; a timeout is due as PACK_TIMEOUT (R37). -/
def State.stepPack (s : State) (kp : Nat × Pack) : State :=
  let age := min (kp.2.age + 1) 10000
  (s.setPack kp.1 fun x => { x with age := age }).enqueueIf
    (age ≥ s.settings.reportTimeout && (kp.2.health == .qualifying || kp.2.health == .good)) (.packTimeout kp.1)

def State.stepPacks (s : State) : State := s.packs.foldl State.stepPack s

/-! ### Writes and retirements -/

/-- WRITE of a role (R24). -/
def State.putRole (k : Nat) (label : Label) (performer : Option Nat) (s : State) : Except Status State :=
  if performer.isSome && (performer.bind s.performers.get).isNone then .error .noSuch
  else .ok ({ s with roles := s.roles.put k ⟨label, performer⟩ }).rebindAll

/-- Is the pack named by a performer other than `k`? -/
def State.namedByOther (s : State) (k : Nat) (pack : Option Nat) : Bool :=
  pack.isSome && s.performers.any fun jp => jp.1 != k && (jp.2.primary == pack || jp.2.spare == pack)

/-- WRITE of a performer, its room and packs checked in the order of R25 and R27. -/
def State.putPerformer (k : Nat) (p : Performer) (s : State) : Except Status State :=
  if p.room.any fun z => z < 1 || z > 16 then .error .badField
  else if p.primary.any (fun x => !s.packs.has x) || p.spare.any (fun x => !s.packs.has x) ||
      p.room.any (fun z => !s.zones.has z) then .error .noSuch
  else if (p.primary.isSome && p.primary == p.spare) || s.namedByOther k p.primary || s.namedByOther k p.spare then
    .error .inUse
  else .ok ({ s with performers := s.performers.put k p }).rebindAll

/-- A pack newly created on a channel (R26). -/
def Pack.fresh (ch : Nat) : Pack :=
  { channel := ch, health := .unknown, rf := none, battery := none, warning := false, progress := 0, age := 0 }

/-- A present pack moved to another channel: the roles recomputed, and the protection moved with a LOST or
QUALIFYING pack (R26). R26 does not order the two moves; the model restores the old channel first, which decides which of them
snaps where the pool has one free entry (log entry 38). -/
def State.rechannel (k ch : Nat) (old : Pack) (s : State) : State :=
  let t := (s.setPack k fun x => { x with channel := ch }).rebindAll
  if old.health = .lost ∨ old.health = .qualifying then (t.restoreChannel old.channel).protectChannel ch else t

/-- WRITE of a pack (R26). -/
def State.putPack (k ch : Nat) (s : State) : Except Status State :=
  if ch < 1 || ch > 64 then .error .badField
  else if s.packs.any fun jp => jp.1 != k && jp.2.channel == ch then .error .inUse
  else
    match s.packs.get k with
    | none => .ok { s with packs := s.packs.put k (Pack.fresh ch) }
    | some old => if old.channel = ch then .ok s else .ok (s.rechannel k ch old)

/-- RETIRE of a role (R32). -/
def State.dropRole (k : Nat) (s : State) : Except Status State :=
  if !s.roles.has k then .error .noSuch
  else if s.roleCount k ≠ 0 then .error .inUse
  else .ok { s with roles := s.roles.erase k }

/-- RETIRE of a performer (R32). -/
def State.dropPerformer (k : Nat) (s : State) : Except Status State :=
  if !s.performers.has k then .error .noSuch
  else if s.performerCount k ≠ 0 then .error .inUse
  else .ok { s with performers := s.performers.erase k }

/-- A performer's slot that names a pack cleared, the other left as it is (R33). -/
def Performer.forget (pack : Nat) (p : Performer) : Performer :=
  { p with
    primary := if p.primary = some pack then none else p.primary,
    spare := if p.spare = some pack then none else p.spare }

/-- RETIRE of a pack (R33). -/
def State.dropPack (k : Nat) (s : State) : Except Status State :=
  match s.packs.get k with
  | none => .error .noSuch
  | some p =>
    let t := { s with performers := s.performers.mapRecords fun _ x => x.forget k }
    let u := { t with packs := t.packs.erase k }
    .ok (u.rebindAll.restoreChannel p.channel)

/-- SWAP of a performer (R42): BAD_FIELD with no spare. -/
def State.swapPerformer (k : Nat) (s : State) : Except Status State :=
  match s.performers.get k with
  | none => .error .noSuch
  | some p => if p.spare.isNone then .error .badField else .ok (s.swapPacks k)

/-- The cast table's part of an audio restart: packs to UNKNOWN, protect 0 as a snap, PACK_CHANGED once if any
health or warning changed (R44). -/
def State.restartCast (s : State) : State :=
  let changed := s.packs.any fun kp => kp.2.health != .unknown || kp.2.warning
  let t := { s with
    packs := s.packs.mapRecords fun _ x =>
      { x with health := .unknown, rf := none, battery := none, warning := false, progress := 0, age := 0 },
    protect := s.protect.mapRecords fun _ _ => 0 }
  if changed then t.raise .packChanged else t

end Sys2Proof.Machine
end

