-- ==== Sys2Proof/Machine/Chime.lean ====
section
/-! DEFINITION. The chime unit (chapter 9): patterns, generators, the triangle wave, chimes and the line-check
tone. -/

namespace Sys2Proof.Machine

/-- The phases of one tone period. -/
def phaseCount : Nat := 16777216

/-- The rising zero crossing (R165). -/
def crossing : Nat := 4194304

/-- The triangle wave at a phase, limited to the sample range (R165). -/
def triangle (phase : Nat) : Int :=
  if phase < 8388608 then limit (2 * (phase : Int) - 8388608) else limit (25165824 - 2 * (phase : Int))

/-- The phase after an advance by the step (R165). -/
def advancePhase (phase step : Nat) : Nat := if phase + step ≥ phaseCount then phase + step - phaseCount else phase + step

/-- Did the advance that reached `phase` by `step` pass the rising zero crossing: did it move the phase onto or
across 4,194,304 (R165)? -/
def passedCrossing (phase step : Nat) : Bool := (phase + phaseCount - crossing) % phaseCount < step

/-- The mark's length, the space's and a rest's in sample periods, 48 to the millisecond (R167 to R169). -/
def Tune.markLength (t : Tune) : Nat := t.mark * 48

def Tune.spaceLength (t : Tune) : Nat := t.space * 48

def Tune.restLength (t : Tune) : Nat := (t.mark + t.space) * 48

/-- The shadow of a generator; the empty tune for one that plays none. -/
def Generator.tune (g : Generator) : Tune := g.shadow.getD ⟨false, 0, 0, 0, 0, 0, 0, 0⟩

/-- Is any foldback output in TONE? -/
def State.anyTone (s : State) : Bool := s.outputs.any fun kb => kb.2.check == .tone

/-- Is a generator eligible for a pass of a priority (R164)? -/
def State.eligible (s : State) (g priority : Nat) : Bool :=
  if g = 1 then !s.anyTone else if g = 4 then priority ≥ 2 else true

/-- The lowest-numbered generator that is FREE and eligible (R164). -/
def State.freeGenerator (s : State) (priority : Nat) : Option Nat :=
  (s.gens.find? fun kg => kg.2.use == .free && s.eligible kg.1 priority).map Prod.fst

/-- A generator's fields cleared, FREE (R169, R170). -/
def State.freeGen (g : Nat) (s : State) : State := s.setGen g fun _ => Generator.reset

/-- A generator given to a pass begins its chime (R166). -/
def State.beginChime (g id k : Nat) (s : State) : State :=
  match s.patterns.get k with
  | none => s
  | some p =>
    s.setGen g fun _ =>
      { use := .chime, call := some id, pattern := some k, shadow := some p.tune, part := .mark,
        phase := crossing, step := p.tune.primary, secondary := false, count := 0, cyclesDone := 0,
        restsDone := 0, output := 0 }

/-- The shadow as the pattern table now holds its pattern (R168, R169). -/
def State.freshShadow (s : State) (g : Generator) : Option Tune :=
  match g.pattern.bind s.patterns.get with
  | none => g.shadow
  | some p => some p.tune

/-! ### Sample periods (R165, R167 to R169, R171) -/

/-- Does the generator sound in this period? -/
def Generator.sounding (g : Generator) : Bool :=
  match g.use with
  | .free => false
  | .lineCheck => true
  | .chime => g.part == .mark

/-- One sample period of a generator: its output, its phase, its section count. -/
def Generator.sound (g : Generator) : Generator :=
  let h := if g.sounding then { g with output := triangle g.phase, phase := advancePhase g.phase g.step }
    else { g with output := 0 }
  if h.use = .chime then { h with count := h.count + 1 } else h

/-- Has the mark ended: at or above its length, on an advance that passed the crossing (R167)? -/
def Generator.markEnded (g : Generator) : Bool :=
  g.use == .chime && g.part == .mark && g.count ≥ g.tune.markLength && passedCrossing g.phase g.step

/-- Has the space been counted (R168)? -/
def Generator.spaceEnded (g : Generator) : Bool :=
  g.use == .chime && g.part == .space && g.count ≥ g.tune.spaceLength

/-- Has the rest been counted (R169)? -/
def Generator.restEnded (g : Generator) : Bool :=
  g.use == .chime && g.part == .rest && g.restsDone < g.tune.rests && g.count ≥ g.tune.restLength

/-- Is the chime complete: sounding cycles and rest cycles all done (R169)? -/
def Generator.chimeDone (g : Generator) : Bool :=
  g.use == .chime && g.part == .rest && g.restsDone ≥ g.tune.rests

/-- One sample period of one generator in the state; the ends it reaches are due as events. The end of a rest
cycle that is not the chime's last is made here (R169). -/
def State.soundGen (s : State) (kg : Nat × Generator) : State :=
  let g := kg.2.sound
  let h := if g.restEnded then
      { g with restsDone := g.restsDone + 1, count := 0, shadow := s.freshShadow g }
    else g
  (((s.setGen kg.1 fun _ => h).enqueueIf h.markEnded (.markEnd kg.1)).enqueueIf h.spaceEnded
    (.cycleEnd kg.1)).enqueueIf h.chimeDone (.chimeComplete kg.1)

def State.soundGens (s : State) : State := s.gens.foldl State.soundGen s

/-- MARK_END: the generator enters SPACE; a space of 0 ends the cycle in the same period (R167, R168). -/
def State.markEnd (g : Nat) (s : State) : State :=
  let x := s.gen g
  if x.markEnded then
    (s.setGen g fun y => { y with part := .space, count := 0 }).enqueueIf (x.tune.spaceLength == 0) (.cycleEnd g)
  else s

/-- What the end of a cycle makes of a generator, from the reloaded shadow: the steps of R168, and REST where the
sounding cycles are done. -/
def Generator.endCycle (x : Generator) (shadow : Option Tune) : Generator :=
  let y := { x with cyclesDone := x.cyclesDone + 1, shadow := shadow }
  let t := y.tune
  let flipped := if t.alternate then !y.secondary else y.secondary
  let step := if !t.alternate || !flipped then t.primary else t.secondary
  let z := { y with secondary := flipped, step := step, count := 0 }
  if z.cyclesDone < t.cycles then { z with part := .mark, phase := crossing } else { z with part := .rest }

/-- CYCLE_END (R168, R169); with no rest cycles the chime is complete at the same cycle end. -/
def State.cycleEnd (g : Nat) (s : State) : State :=
  let x := s.gen g
  if x.spaceEnded then
    let y := x.endCycle (s.freshShadow x)
    (s.setGen g fun _ => y).enqueueIf y.chimeDone (.chimeComplete g)
  else s

/-! ### The line-check tone (R171) -/

/-- Generator 1 enters or leaves LINE_CHECK as the first output enters TONE or the last leaves it (R171). -/
def State.lineCheck (s : State) : State :=
  let x := s.gen 1
  if s.anyTone then
    if x.use = .free then
      s.setGen 1 fun y => { y with use := .lineCheck, phase := crossing, step := 349525 }
    else s
  else if x.use = .lineCheck then s.freeGen 1 else s

/-- Every output in MUTE or TONE returns to NORMAL, and generator 1 leaves its line-check use (R135). -/
def State.checksNormal (s : State) : State :=
  ({ s with outputs := s.outputs.mapRecords fun _ b => { b with check := .normal } }).lineCheck

/-- WRITE of a pattern (R162). -/
def State.putPattern (k : Nat) (p : Pattern) (s : State) : State := { s with patterns := s.patterns.put k p }

/-- RETIRE of a pattern (R163). -/
def State.dropPattern (k : Nat) (s : State) : Except Status State :=
  if !s.patterns.has k then .error .noSuch
  else if s.patternCount k ≠ 0 then .error .inUse
  else .ok { s with patterns := s.patterns.erase k }

end Sys2Proof.Machine
end

