-- ==== Sys2Proof/Machine/Relay.lean ====
section
/-! DEFINITION. The relay unit (chapter 8): the call table, the zone arbiter, passes, PTT and evacuation. -/

namespace Sys2Proof.Machine

/-! ### Occupancy (R147) -/

/-- The occupant of a zone, or of the stage as zone 0. -/
def State.occupant (s : State) (z : Nat) : Option Occupant :=
  if z = 0 then s.relay.stage else (s.zones.get z).bind Zone.occupant

def State.setOccupant (z : Nat) (o : Option Occupant) (s : State) : State :=
  if z = 0 then { s with relay := { s.relay with stage := o } } else s.setZone z fun x => { x with occupant := o }

/-- The zones of a call whose entry has a status. -/
def Call.zonesIn (c : Call) (st : ZoneStatus) : List Nat := (c.entries.filter fun e => e.2 == st).map Prod.fst

/-- Every entry of one status given another. -/
def Call.turn (c : Call) (old new : ZoneStatus) : Call :=
  { c with entries := c.entries.mapRecords fun _ st => if st = old then new else st }

def Call.isLive (c : Call) : Bool :=
  match c.kind with
  | .live _ => true
  | .clip _ => false

/-- Is the pass in OPENING, CHIME or MESSAGE? -/
def Phase.speaking : Phase → Bool
  | .opening => true
  | .chime => true
  | .message => true
  | _ => false

/-- A call is ready while its pass phase is IDLE and a zone is WAITING (R143). -/
def Call.ready (c : Call) : Bool := c.phase == .idle && !(c.zonesIn .waiting).isEmpty

/-- A call retires when its pass phase is IDLE and no entry is WAITING or ACTIVE (R155). -/
def Call.finished (c : Call) : Bool :=
  c.phase == .idle && (c.zonesIn .waiting).isEmpty && (c.zonesIn .active).isEmpty

/-! ### Voices and generators of passes -/

/-- A pass's generator freed at once, its chime stopped (R150, R170). -/
def State.releaseGen (id : Nat) (s : State) : State :=
  match (s.call id).bind Call.gen with
  | none => s
  | some g => (s.freeGen g).setCall id fun c => { c with gen := none }

/-- A pass's voice released, or its waiting request withdrawn (R105, R151): a voice still CLOSING for the steal
that took it drops the pending playback and ends when its gate is CLOSED. -/
def State.releaseVoice (id : Nat) (s : State) : State :=
  match (s.call id).map Call.voice with
  | some (.held v) =>
    let t := if (s.voice v).owner = .call id then
        if (s.voice v).state = .closing then s.setVoice v fun x => { x with pending := none } else s.endVoice v
      else s
    t.setCall id fun c => { c with voice := .none }
  | some .waiting =>
    ({ s with voiceUnit := { s.voiceUnit with waiting := s.voiceUnit.waiting.erase id } }).setCall id
      fun c => { c with voice := .none }
  | _ => s

/-- A call pass asks for a voice (R105): the lowest IDLE voice, or a steal from a cue, or the waiting list. -/
def State.askVoice (id clip : Nat) (s : State) : State :=
  match s.idleVoice with
  | some v => s.giveVoice v id clip
  | none =>
    match s.oldestCueVoice with
    | some v =>
      let p : PendingPlay := { clip := clip, route := [], loops := .none, held := none, owner := .call id }
      let t := (s.steal v p none).setCall id fun c => { c with voice := .held v }
      if (t.voice v).gate.state = .closed then t.gateIsClosed v else t
    | none =>
      ({ s with voiceUnit := { s.voiceUnit with waiting := s.voiceUnit.waiting ++ [id] } }).setCall id
        fun c => { c with voice := .waiting }

/-! ### Phases (section 8.6) -/

/-- A pass enters GAP: the timer at the evacuation gap, ending at once if it is 0 (R159). -/
def State.enterGap (id : Nat) (s : State) : State :=
  (s.setCall id fun c => { c with phase := .gap, timer := s.settings.evacGap, voice := .none }).enqueueIf
    (s.settings.evacGap == 0) (.gapEnd id)

/-- A pass enters MESSAGE: a CLIP call asks for a voice, a LIVE call gates in its source (R151, R152); an evacuation
pass with no clip goes on to GAP if it has a pattern, and stays if it has none (R159). -/
def State.enterMessage (id : Nat) (s : State) : State :=
  match s.call id with
  | none => s
  | some c =>
    let t := s.setCall id fun x => { x with phase := .message }
    match c.kind with
    | .live _ => t
    | .clip (some k) => t.askVoice id k
    | .clip none => if c.pattern.isSome then t.enterGap id else t

/-- A pass enters CHIME (R150): with no pattern it goes on to MESSAGE; with no generator given, CHIME_SKIPPED. -/
def State.enterChime (id : Nat) (s : State) : State :=
  match s.call id with
  | none => s
  | some c =>
    match c.pattern with
    | none => s.enterMessage id
    | some k =>
      match s.freeGenerator c.priority with
      | none => (s.raise .chimeSkipped).enterMessage id
      | some g => (s.setCall id fun x => { x with phase := .chime, gen := some g }).beginChime g id k

/-- A duck moved by a call pass, owner CALL. -/
def State.moveDuck (el : Element) (target fade : Nat) (s : State) : State :=
  s.move { element := el, target := target, fade := fade, owner := .call, action := none }

/-- The duck moves of one granted zone, or of the stage: every output's stage duck to its depth (R119, R149). The order in which
they reach the ramp engine is not stated; the model takes the outputs in ascending order (log entry 38). -/
def State.duckDown (s : State) (z : Nat) : State :=
  if z = 0 then
    s.outputs.keys.foldl
      (fun t o => t.moveDuck (.stageDuck o) (t.output o).duckDepth s.settings.stageDuckFade) s
  else
    match s.zones.get z with
    | none => s
    | some x => s.moveDuck (.zoneDuck z) x.duckDepth x.duckFade

/-- The fade of a granted zone or the stage (R149). -/
def State.duckFade (s : State) (z : Nat) : Nat :=
  if z = 0 then s.settings.stageDuckFade else ((s.zones.get z).map Zone.duckFade).getD 0

/-- The restore moves of one zone, or of the stage, the outputs in ascending order (R119, R153; log entry 38). -/
def State.duckUp (s : State) (z : Nat) : State :=
  if z = 0 then s.outputs.keys.foldl (fun t o => t.moveDuck (.stageDuck o) 0 s.settings.stageRestoreFade) s
  else
    match s.zones.get z with
    | none => s
    | some x => s.moveDuck (.zoneDuck z) 0 x.restoreFade

def State.restoreFade (s : State) (z : Nat) : Nat :=
  if z = 0 then s.settings.stageRestoreFade else ((s.zones.get z).map Zone.restoreFade).getD 0

/-- A pass starts in OPENING on the zones granted (R149); a timer of 0 ends the phase at once. The ducks move for the stage first
and then for the zones ascending, which decides which of them snap where the pool has too few free entries (log entry 38). -/
def State.startPass (id : Nat) (zones : List Nat) (s : State) : State :=
  let timer := largest (zones.map s.duckFade)
  let t := zones.foldl State.duckDown s
  (t.setCall id fun c => { c with phase := .opening, timer := timer }).enqueueIf (timer == 0) (.openingEnd id)

/-- A pass ends without a CLOSING, having lost its last zone (R148). Its phase timer is set to 0 (log entry 42). -/
def State.endPass (id : Nat) (s : State) : State :=
  ((s.releaseGen id).releaseVoice id).setCall id fun c => { c with phase := .idle, timer := 0 }

/-- The effects of entry to CLOSING (R153): occupancy released, entries DONE, ducks restoring, voice and generator
released, the timer at the longest restore fade. The arbitration that follows is the caller's. -/
def State.enterClosing (id : Nat) (s : State) : State :=
  match s.call id with
  | none => s
  | some c =>
    let zones := c.zonesIn .active
    let timer := largest (zones.map s.restoreFade)
    let t := zones.foldl (fun t z => t.setOccupant z none) s
    let u := t.setCall id fun x => x.turn .active .done
    let w := ((zones.foldl State.duckUp u).releaseVoice id).releaseGen id
    (w.setCall id fun x => { x with phase := .closing, timer := timer }).enqueueIf (timer == 0) (.closingEnd id)

/-! ### Retirement (R155) -/

/-- A call leaves the table with CALL_DROPPED or CALL_DONE (R155). -/
def State.retireCall (id : Nat) (s : State) : State :=
  match s.call id with
  | none => s
  | some c =>
    let dropped := !(c.zonesIn .missed).isEmpty || !(c.zonesIn .preempted).isEmpty || c.cut
    let t := { s with relay := { s.relay with calls := s.relay.calls.erase id } }
    t.raise (if dropped then .callDropped else .callDone)

/-- A call retired if its last condition holds (R155). -/
def State.retireIfFinished (s : State) (id : Nat) : State :=
  match s.call id with
  | none => s
  | some c => if c.finished then s.retireCall id else s

/-! ### The arbiter (R147, R148) -/

/-- May the arbiter grant a zone to the call: free, or occupied by a pass of strictly lower priority; in EVAC to
priority 3 alone (R147)? -/
def State.grantable (s : State) (c : Call) (z : Nat) : Bool :=
  (s.house.state != .evac || c.priority ≥ 3) &&
    match s.occupant z with
    | none => true
    | some o => o.priority < c.priority

/-- A zone preempted from the pass that occupies it; a pass left with none ends at once (R148), before the next zone of the same
call is granted (log entry 49). -/
def State.loseZone (id z : Nat) (s : State) : State :=
  match s.call id with
  | none => s
  | some c =>
    let new := if c.isLive then ZoneStatus.preempted else ZoneStatus.waiting
    let t := s.setCall id fun x => { x with entries := x.entries.update z fun _ => new }
    if ((t.call id).map fun x => (x.zonesIn .active).isEmpty).getD false then t.endPass id else t

/-- One zone granted to a call, preempting a lower pass (R147, R148). -/
def State.grantZone (id priority : Nat) (s : State) (z : Nat) : State :=
  let t := match s.occupant z with
    | none => s
    | some o => s.loseZone o.id z
  (t.setOccupant z (some ⟨id, priority⟩)).setCall id fun c =>
    { c with entries := c.entries.update z fun _ => .active }

/-- One call's turn in an arbitration: a ready call is granted what it can be, and starts a pass if that is
anything (R147). DESIGN CHOICE, unsafe: no rule orders the grants of one call, nor so the ends of the passes that they leave with no
zone (R148); the model grants the stage first and then the zones ascending, which decides whose voice goes to the waiting list
first (R105), hence start orders (log entry 49). -/
def State.arbitrateCall (s : State) (id : Nat) : State :=
  match s.call id with
  | none => s
  | some c =>
    let zones := (c.zonesIn .waiting).filter (s.grantable c)
    if !c.ready || zones.isEmpty then s
    else (zones.foldl (State.grantZone id c.priority) s).startPass id zones

/-- The calls in the order of an arbitration: priority highest first, creation earliest first (R147). -/
def State.callOrder (s : State) : List Nat :=
  (sortBy (fun (a b : Nat × Call) =>
    b.2.priority < a.2.priority || (a.2.priority == b.2.priority && a.2.order < b.2.order)) s.relay.calls).map
    Prod.fst

/-- An arbitration (R147); `created` is the call it is taken at the creation of, whose WAITING zones become MISSED
if it is LIVE. Calls left with nothing retire. -/
def State.arbitrate (created : Option Nat) (s : State) : State :=
  let ids := s.callOrder
  let t := ids.foldl State.arbitrateCall s
  let u := match created with
    | none => t
    | some id => t.setCall id fun c => if c.isLive then c.turn .waiting .missed else c
  ids.foldl State.retireIfFinished u

/-! ### Creating calls (R143 to R145) -/

/-- What a call is placed with. -/
structure CallSpec where
  targets : List Target
  priority : Nat
  kind : CallKind
  pattern : Option Nat
  ptt : Bool
deriving DecidableEq, Repr

/-- A zone that must be present, or NO_SUCH. -/
def State.presentZone (s : State) (z : Nat) : Except Status (List Nat) :=
  if s.zones.has z then .ok [z] else .error .noSuch

/-- The zones one target gives (R145); the stage is zone 0. -/
def State.targetZones (s : State) : Target → Except Status (List Nat)
  | .zone z => s.presentZone z
  | .group g =>
    match s.groups.get g with
    | none => .error .noSuch
    | some x => .ok x.members
  | .performer k =>
    match s.performers.get k with
    | none => .error .noSuch
    | some p => s.presentZone (p.room.getD s.settings.defaultZone)
  | .role r =>
    match s.roles.get r with
    | none => .error .noSuch
    | some x =>
      s.presentZone (((x.performer.bind s.performers.get).bind Performer.room).getD s.settings.defaultZone)
  | .all => .ok s.zones.keys
  | .stage => .ok [0]

/-- The zone set of a target list, the stage first and then ascending (R145). -/
def State.zoneSet (s : State) : List Target → Except Status (List Nat)
  | [] => .ok []
  | t :: ts =>
    match s.targetZones t, s.zoneSet ts with
    | .error e, _ => .error e
    | .ok _, .error e => .error e
    | .ok zs, .ok rest => .ok (zs.foldl (fun acc z => insertOnce z acc) rest)

/-- The next free id above the last issued, wrapping from 255 to 1 (R143). -/
def State.nextId (s : State) : Nat :=
  (((List.range 255).map fun i => (s.relay.lastId + i) % 255 + 1).find? fun id => !s.relay.calls.has id).getD
    (s.relay.lastId % 255 + 1)

/-- The status a zone of a new call is entered with: SKIPPED where its floor is above the priority (R145). -/
def State.firstStatus (s : State) (priority z : Nat) : ZoneStatus :=
  if z ≠ 0 ∧ ((s.zones.get z).map Zone.floor).getD 0 > priority then .skipped else .waiting

/-- A call put in the table with the next id and the creation order counter's next value: 1 for the first after reset
(R143). -/
def State.addCall (c : CallSpec) (evac : Bool) (zones : List Nat) (s : State) : State :=
  let call : Call :=
    { priority := c.priority, kind := c.kind, pattern := c.pattern, order := s.relay.orderCount + 1,
      entries := zones.map fun z => (z, s.firstStatus c.priority z), phase := .idle, timer := 0,
      voice := .none, gen := none, liveTime := 0, ptt := c.ptt, evac := evac, cut := false }
  { s with relay := { s.relay with
      calls := s.relay.calls.put s.nextId call, lastId := s.nextId, orderCount := s.relay.orderCount + 1 } }

/-- The placement of R144, with its checks in order after BAD_FIELD: NO_SUCH, WRONG_STATE, FULL. Answers the id. -/
def State.placeCall (c : CallSpec) (s : State) : Except Status (State × Nat) :=
  let clipMissing := match c.kind with
    | .clip (some k) => !s.clips.has k
    | .clip none => true
    | .live _ => false
  if clipMissing || c.pattern.any fun k => !s.patterns.has k then .error .noSuch
  else
    match s.zoneSet c.targets with
    | .error e => .error e
    | .ok [] => .error .noSuch
    | .ok zones =>
      if s.inDark then .error .wrongState
      else if s.relay.calls.length ≥ 24 then .error .full
      else .ok ((s.addCall c false zones).arbitrate (some s.nextId), s.nextId)

/-! ### Ending calls (R154, R156) -/

/-- END_CALL of a present call that is not the evacuation call (R154). -/
def State.endCallNow (id : Nat) (s : State) : State :=
  match s.call id with
  | none => s
  | some c =>
    if c.phase.speaking then
      (((s.enterClosing id).setCall id fun x => x.turn .waiting .missed)).arbitrate none
    else (s.setCall id fun x => x.turn .waiting .missed).retireIfFinished id

/-- Does a pass in this phase hold zones: in OPENING, CHIME, MESSAGE and, the evacuation call's, in GAP (section 8.6)? -/
def Phase.holds (p : Phase) : Bool := p.speaking || p == .gap

/-- The cancellation of a call (R156), the arbitration after it included. Only the evacuation call stands in GAP, and it
is not cancelled while it does (R156, R160). -/
def State.cancelNow (id : Nat) (s : State) : State :=
  match s.call id with
  | none => s
  | some c =>
    let t := if c.phase.holds then s.enterClosing id else s
    let u := t.setCall id fun x => x.turn .waiting .missed
    ((u.retireCall id).unqueue (.closingEnd id)).arbitrate none

/-- The message of a pass has been delivered: CLOSING, or GAP for the evacuation call (R151, R159). -/
def State.delivered (id : Nat) (s : State) : State :=
  match s.call id with
  | none => s
  | some c =>
    if c.phase = .message then
      if c.evac then s.enterGap id
      else ((s.setCall id fun x => { x with voice := .none }).enterClosing id).arbitrate none
    else s

/-! ### Events of passes -/

/-- OPENING_END (R149, R150). -/
def State.openingEnd (id : Nat) (s : State) : State :=
  match s.call id with
  | none => s
  | some c => if c.phase = .opening ∧ c.timer = 0 then s.enterChime id else s

/-- GAP_END (R159). -/
def State.gapEnd (id : Nat) (s : State) : State :=
  match s.call id with
  | none => s
  | some c => if c.phase = .gap ∧ c.timer = 0 then s.enterChime id else s

/-- CLOSING_END: the pass ends, an arbitration follows, and a call with no zone WAITING retires (R153, R155). -/
def State.closingEnd (id : Nat) (s : State) : State :=
  match s.call id with
  | none => s
  | some c =>
    if c.phase = .closing ∧ c.timer = 0 then (s.setCall id fun x => { x with phase := .idle }).arbitrate none else s

/-- Has a LIVE call's live time passed the live maximum (R152)? -/
def State.overLive (s : State) (c : Call) : Bool :=
  c.isLive && !c.cut && c.liveTime > s.settings.liveMaximum * 1000

/-- LIVE_MAXIMUM: the call is marked CUT, and its pass, if speaking, enters CLOSING (R152). -/
def State.liveMaximum (id : Nat) (s : State) : State :=
  match s.call id with
  | none => s
  | some c =>
    if s.overLive c then
      let t := s.setCall id fun x => { x with cut := true }
      if c.phase.speaking then (t.enterClosing id).arbitrate none else t
    else s

/-- CHIME_COMPLETE: the generator FREE, and the pass it served enters MESSAGE (R169, R150). -/
def State.chimeComplete (g : Nat) (s : State) : State :=
  let x := s.gen g
  if x.chimeDone then
    let t := s.freeGen g
    match x.call with
    | none => t
    | some id => (t.setCall id fun c => { c with gen := none }).enterMessage id
  else s

/-- One tick of a call: its phase timer in OPENING, CLOSING and GAP, its live time if LIVE (R149, R152). -/
def State.stepCall (s : State) (kc : Nat × Call) : State :=
  let c := kc.2
  let counts := c.phase == .opening || c.phase == .closing || c.phase == .gap
  let timer := if counts then c.timer - 1 else c.timer
  let live := if c.isLive then min (c.liveTime + 1) 610001 else c.liveTime
  let t := s.setCall kc.1 fun x => { x with timer := timer, liveTime := live }
  let u := t.enqueueIf (c.phase == .opening && timer == 0) (.openingEnd kc.1)
  let v := u.enqueueIf (c.phase == .closing && timer == 0) (.closingEnd kc.1)
  let w := v.enqueueIf (c.phase == .gap && timer == 0) (.gapEnd kc.1)
  w.enqueueIf (w.overLive { c with liveTime := live }) (.liveMaximum kc.1)

def State.stepCalls (s : State) : State := s.relay.calls.foldl State.stepCall s

/-! ### The PTT line (R146) -/

/-- The LIVE call of a PTT press, or CALL_DROPPED where it would be refused; a refused press leaves the earlier marks as they
stand (R146; log entry 45). -/
def State.placePtt (s : State) : State :=
  let t := { s with relay := { s.relay with calls := s.relay.calls.mapRecords fun _ c => { c with ptt := false } } }
  let spec : CallSpec :=
    { targets := s.settings.pttTargets, priority := s.settings.pttPriority, kind := .live s.settings.pttSource,
      pattern := none, ptt := true }
  match t.placeCall spec with
  | .ok (u, _) => u
  | .error _ => s.raise .callDropped

/-- The release of PTT: the call marked PTT ends as END_CALL would, if it is present. -/
def State.endPtt (s : State) : State :=
  match s.relay.calls.find? (·.2.ptt) with
  | none => s
  | some (id, _) => s.endCallNow id

/-- The PTT level as the control line unit reports it: the first press places a call, the last release ends it;
nothing in DARK (R146). -/
def State.reportPtt (pressed : Bool) (s : State) : State :=
  if s.inDark then s
  else
    let t := { s with relay := { s.relay with pttPressed := pressed } }
    if pressed && !s.relay.pttPressed then t.placePtt
    else if !pressed && s.relay.pttPressed then t.endPtt
    else t

/-! ### Evacuation (R158, R160) -/

/-- The call of lowest priority, the earliest created among those (R158). -/
def State.lowestCall (s : State) : Option Nat :=
  ((sortBy (fun (a b : Nat × Call) =>
    a.2.priority < b.2.priority || (a.2.priority == b.2.priority && a.2.order < b.2.order)) s.relay.calls).map
    Prod.fst).head?

/-- The evacuation call created, a full table first losing its lowest call (R158). -/
def State.evacuate (s : State) : State :=
  let t := if s.relay.calls.length ≥ 24 then
      match s.lowestCall with
      | none => s
      | some id => s.cancelNow id
    else s
  let spec : CallSpec :=
    { targets := [.all, .stage], priority := 3, kind := .clip t.settings.evacClip,
      pattern := t.settings.evacPattern, ptt := false }
  (t.addCall spec true (0 :: t.zones.keys)).arbitrate (some t.nextId)

/-- CLEAR_EVAC's effect on the relay unit: the evacuation pass enters CLOSING from whatever phase, and an
arbitration follows (R160). -/
def State.endEvacuation (s : State) : State :=
  let ids := (s.relay.calls.filter fun kc => kc.2.evac && kc.2.phase != .closing).map Prod.fst
  (ids.foldl (fun t id => t.enterClosing id) s).arbitrate none

/-- The relay unit's part of an audio restart: every call removed without events, every occupancy released, every
duck 0 as a snap (R161). -/
def State.restartRelay (s : State) : State :=
  { s with
    relay := { s.relay with calls := [], stage := none },
    zones := s.zones.mapRecords fun _ z => { z with occupant := none, duck := 0 } }

/-! ### Zones and groups (R137, R138, R141) -/

/-- RETIRE of a zone (R138): its slot carries 0 from the next sample, so the sample already formed for it goes with it
(log entry 35), and a zone created again at the key does not send it. -/
def State.dropZone (z : Nat) (s : State) : Except Status State :=
  if !s.zones.has z then .error .noSuch
  else if s.zoneCount z ≠ 0 then .error .inUse
  else
    let t := (s.dropRamp (.zoneFeed z)).dropRamp (.zoneDuck z)
    .ok { t with zones := t.zones.erase z, mix := { t.mix with zone := t.mix.zone.update z fun _ => 0 } }

/-- WRITE of a group (R141). -/
def State.putGroup (g : Nat) (label : Label) (members : List Nat) (s : State) : Except Status State :=
  if members.any fun z => !s.zones.has z then .error .noSuch
  else .ok { s with groups := s.groups.put g ⟨label, members.foldl (fun acc z => insertOnce z acc) []⟩ }

/-- RETIRE of a group (R141). -/
def State.dropGroup (g : Nat) (s : State) : Except Status State :=
  if s.groups.has g then .ok { s with groups := s.groups.erase g } else .error .noSuch

end Sys2Proof.Machine
end

