-- ==== Sys2Proof/Machine/Cue.lean ====
section
/-! DEFINITION. The cue engine (chapters 3 and 4): the cue list, the actions, the standby latch, GO and HOLD, fires,
cue runs, the lamp; and the transition of the house state that a GO in PRESET makes. -/

namespace Sys2Proof.Machine

/-! ### The chase's condition and the house state -/

/-- The four conditions of R95. -/
def State.canFire (s : State) : Bool :=
  (match s.cue.latch with
    | none => false
    | some l =>
      l.armed &&
        match l.cue.trigger with
        | .manual => false
        | .timecode f => s.chase.frame ≥ f) &&
    (s.chase.state == .locked || s.chase.state == .freewheel) &&
    (s.house.state == .preset || s.house.state == .running)

/-- The chase examines its conditions; where they hold its GO is due (R95, R96). -/
def State.examine (s : State) : State := s.enqueueIf s.canFire .timecodeGo

/-- A transition of the house state: HOUSE_CHANGED raised, and the chase's examination due (R174, R95). -/
def State.setHouse (h : HouseState) (s : State) : State :=
  (({ s with house := { s.house with state := h } }).raise .houseChanged).examine

/-- The entry to RUNNING: check states return to NORMAL (R135, R177). -/
def State.enterRunning (s : State) : State := (s.setHouse .running).checksNormal

/-! ### The lamp (R84) -/

/-- The lamp state the conditions of R84 give. -/
def State.lampNow (s : State) : Lamp :=
  if s.house.state != .preset && s.house.state != .running then .off
  else if s.cue.darkGap > 0 || s.cue.latch.isNone then .off
  else if s.holdPresent then .flash else .on

/-- The lamp decided afresh; one that enters FLASH starts in its lit half (R84). -/
def State.relamp (s : State) : State :=
  if s.lampNow = .flash ∧ s.cue.lamp ≠ .flash then
    { s with cue := { s.cue with lamp := .flash, lit := true, flashCount := 0 } }
  else { s with cue := { s.cue with lamp := s.lampNow } }

/-- DARK_GAP_END: the lamp is decided with the gap over. -/
def State.darkGapEnd (s : State) : State := if s.cue.darkGap = 0 then s.relamp else s

/-- FLASH_PHASE: the other half of the flash begins (R84). -/
def State.flashPhase (s : State) : State :=
  if s.cue.lamp = .flash ∧ s.cue.flashCount ≥ 250 then
    { s with cue := { s.cue with lit := !s.cue.lit, flashCount := 0 } }
  else s

/-! ### The latch (R65, R68) -/

/-- The copy a cue is latched as: fresh, and armed where its trigger is TIMECODE (R65). -/
def Latch.of (n : Nat) (c : Cue) : Latch :=
  { number := n, cue := c, stale := false, armed := c.trigger != .manual }

/-- A copy latched, replacing any there, and the chase's examination due (R65, R95). -/
def State.latch (n : Nat) (c : Cue) (s : State) : State :=
  ({ s with cue := { s.cue with latch := some (Latch.of n c) } }).examine

/-- A latched copy of an edited number is marked stale and STALE raised (R68). -/
def State.markStale (n : Nat) (s : State) : State :=
  match s.cue.latch with
  | none => s
  | some l =>
    if l.number = n then
      ({ s with cue := { s.cue with latch := some { l with stale := true } } }).raise .stale
    else s

/-! ### Actions (section 3.5) -/

/-- A CUE move (R55). -/
def cueMove (el : Element) (level fade : Nat) (action : Option Completion) : Move :=
  { element := el, target := level, fade := fade, owner := .cue, action := action }

/-- The voice that holds a tag (R56). -/
def State.tagged (s : State) (tag : Nat) : Option Nat :=
  (s.voices.find? (·.2.tag == some tag)).map Prod.fst

/-- Every voice but `v` that holds a tag loses it (R56). -/
def State.takeTag (v tag : Nat) (s : State) : State :=
  { s with voices := s.voices.mapRecords fun k x => if k ≠ v ∧ x.tag = some tag then { x with tag := none } else x }

/-- The IDLE voice `v` taken for a PLAY: tag, start order, the playback begun and its fade-in (R57, R104). -/
def State.playOn (v clip tag level : Nat) (route : List Nat) (fadeIn : Nat) (loops : Loops) (s : State) : State :=
  let t := s.nextStart
  let u := (t.setVoice v fun x => { x with startOrder := t.voiceUnit.startOrder, tag := some tag }).takeTag v tag
  ((u.beginBase v clip route .cue loops).engineMove (cueMove (.voice v) level fadeIn none)).requestRefill v

/-- PLAY (R57, R102, R103). -/
def State.doPlay (clip tag level : Nat) (route : List Nat) (fadeIn : Nat) (loops : Option Nat) (s : State) : State :=
  match s.clips.get clip with
  | none => s.skipAction
  | some c =>
    let loops := startLoops c (loops.getD c.loops)
    match s.idleVoice with
    | some v => s.playOn v clip tag level route fadeIn loops
    | none =>
      match s.oldestCueVoice with
      | none => s.skipAction
      | some v =>
        let p : PendingPlay :=
          { clip := clip, route := route, loops := loops, held := some (cueMove (.voice v) level fadeIn none),
            owner := .cue }
        let t := (s.steal v p (some tag)).takeTag v tag
        if (t.voice v).gate.state = .closed then t.gateIsClosed v else t

/-- VOICE_FADE, and VOICE_STOP as a fade to off with the stop at its end (R58). -/
def State.doFade (tag level fade : Nat) (stopAtEnd : Bool) (s : State) : State :=
  match s.tagged tag with
  | none => s.skipAction
  | some v =>
    s.move (cueMove (.voice v) level fade (if stopAtEnd then some (.stopVoice v (s.voice v).startOrder) else none))

/-- VOICE_RELEASE (R58, R107). -/
def State.doRelease (tag : Nat) (s : State) : State :=
  match s.tagged tag with
  | none => s.skipAction
  | some v => s.releaseLoop v

/-- Does a source name a role that is absent? -/
def State.absentRole (s : State) : Source → Bool
  | .role k => !s.roles.has k
  | _ => false

/-- An ingredient joins the live recipe at its end, at off (R120, R121). -/
def State.joinLive (o : Nat) (src : Source) (s : State) : State :=
  s.setOutput o fun b => { b with live := b.live ++ [s.newIngredient src] }

/-- INGREDIENT (R59). -/
def State.doIngredient (o : Nat) (src : Source) (level fade : Nat) (s : State) : State :=
  let m := cueMove (.ingredient o src) level fade none
  if (ingredientOf (s.output o).live src).isSome then s.move m
  else if level = 0 || (s.output o).live.length ≥ 16 || s.absentRole src then s.skipAction
  else (s.joinLive o src).move m

/-- The gain element of a MASTER action. -/
def MasterRef.element : MasterRef → Element
  | .foldback o => .foldbackMaster o
  | .programme p => .programmeMaster p
  | .zone z => .zoneFeed z

/-- MASTER (R60): skipped on an absent zone. -/
def State.doMaster (el : MasterRef) (level fade : Nat) (s : State) : State :=
  match el with
  | .zone z => if s.zones.has z then s.move (cueMove el.element level fade none) else s.skipAction
  | _ => s.move (cueMove el.element level fade none)

/-- A show flag set or cleared (R62). -/
def setFlag (flags : BitVec 32) (n : Nat) (set : Bool) : BitVec 32 :=
  if set then flags ||| bitAt n else flags &&& ~~~(bitAt n)

/-- CALL (R61): skipped wherever PLACE_CALL would be refused. -/
def State.doCall (target : Target) (clip : Nat) (pattern : Option Nat) (priority : Nat) (s : State) : State :=
  match s.placeCall
      { targets := [target], priority := priority, kind := .clip (some clip), pattern := pattern, ptt := false } with
  | .ok (t, _) => t
  | .error _ => s.skipAction

/-- One action executed (R55). -/
def State.execute (s : State) (a : Action) : State :=
  match a.kind with
  | .play clip tag level route fadeIn loops => s.doPlay clip tag level route fadeIn loops
  | .voiceFade tag level fade stopAtEnd => s.doFade tag level fade stopAtEnd
  | .voiceRelease tag => s.doRelease tag
  | .voiceStop tag fade => s.doFade tag 0 fade true
  | .ingredient o src level fade => s.doIngredient o src level fade
  | .master el level fade => s.doMaster el level fade
  | .flag n set => { s with flags := setFlag s.flags n set }
  | .call target clip pattern priority => s.doCall target clip pattern priority

/-! ### Cue runs (section 4.5) -/

/-- The actions of a run that are not yet executed and that `due` picks, executed in list order and marked. -/
def State.executeDue (r : Nat) (due : Action → Bool) (s : State) : State :=
  match s.cue.runs.get r with
  | none => s
  | some x =>
    let marked := s.setRun r fun y =>
      { y with actions := y.actions.map fun a => if due a.action then { a with executed := true } else a }
    ((x.actions.filter fun a => !a.executed && due a.action).map RunAction.action).foldl State.execute marked

/-- Has a run nothing left: every action executed, and its follow absent or EXPIRED (R79)? -/
def Run.finished (r : Run) : Bool :=
  r.actions.all RunAction.executed &&
    match r.follow with
    | .waiting _ => false
    | .absent => true
    | .expired => true

def State.dropRun (r : Nat) (s : State) : State := { s with cue := { s.cue with runs := s.cue.runs.erase r } }

def State.freeIfFinished (r : Nat) (s : State) : State :=
  match s.cue.runs.get r with
  | none => s
  | some x => if x.finished then s.dropRun r else s

/-- The BUSY run with the earliest fire order. -/
def State.earliestRun (s : State) : Option Nat :=
  ((sortBy (fun (a b : Nat × Run) => a.2.order < b.2.order) s.cue.runs).map Prod.fst).head?

/-- A collapse: the earliest run's remaining actions executed at once, its follow cancelled, the run FREE (R76). -/
def State.collapse (s : State) : State :=
  match s.earliestRun with
  | none => s
  | some r => ((s.executeDue r fun _ => true).dropRun r).raise .runCollapsed

/-! ### Firing a cue (section 4.4) -/

/-- The present cue with the lowest number above `n` (R46). -/
def State.successor (s : State) (n : Nat) : Option (Nat × Cue) := s.cues.above n

/-- The cue after the last-fired cue, or the first of the list (R74). -/
def State.cueAfterLast (s : State) : Option (Nat × Cue) :=
  match s.cue.lastFired with
  | none => s.cues.head?
  | some n => s.successor n

/-- The run a latched copy becomes: nothing executed, its follow waiting if it has one (R75). -/
def Latch.run (l : Latch) (order : Nat) : Run :=
  { order := order, number := l.number, label := l.cue.label, actions := l.cue.actions.map fun a => ⟨a, false⟩,
    elapsed := 0, follow := (l.cue.follow.map Follow.waiting).getD .absent }

/-- The second step of a fire: the copy moves into the lowest FREE run, the earliest collapsed first where all 8 are
BUSY (R75). Answers the run. -/
def State.takeRun (l : Latch) (s : State) : State × Nat :=
  let t := if s.cue.runs.length ≥ 8 then s.collapse else s
  let r := (t.cue.runs.lowestFree 1 8).getD 1
  let engine : CueEngine :=
    { t.cue with
      latch := none, runs := t.cue.runs.put r (l.run t.cue.nextOrder), nextOrder := t.cue.nextOrder + 1,
      lastFired := some l.number, darkGap := 1000 }
  (({ t with cue := engine }).raise .fired, r)

/-- Does a branch match the show flags (R63)? -/
def State.matches (s : State) (b : Branch) : Bool := s.flags.getLsbD b.flag == b.sense

/-- The third step: the next cue chosen by the branch and latched (R77). -/
def State.autoStandby (l : Latch) (s : State) : State :=
  let chosen : State × Option (Nat × Cue) :=
    match l.cue.branch with
    | none => (s, s.successor l.number)
    | some b =>
      if s.matches b then
        match s.cues.get b.target with
        | some c => (s, some (b.target, c))
        | none => (s.raise .branchMissing, s.successor l.number)
      else (s, s.successor l.number)
  match chosen.2 with
  | none => chosen.1
  | some (n, c) => chosen.1.latch n c

/-- A fire of a copy: run, next cue, undelayed actions, a run with nothing left freed (R75 to R78). -/
def State.fireCopy (l : Latch) (s : State) : State :=
  let taken := s.takeRun l
  (((taken.1.autoStandby l).executeDue taken.2 fun a => a.delay == 0).freeIfFinished taken.2).examine

/-- A fire (R74): the latched copy, or the cue after the last fired, or END_OF_LIST. -/
def State.fire (s : State) : State × GoOutcome :=
  match s.cue.latch with
  | some l => (s.fireCopy l, .fired l.number)
  | none =>
    match s.cueAfterLast with
    | none => (s.raise .endOfList, .endOfList)
    | some (n, c) => (s.fireCopy (Latch.of n c), .fired n)

/-! ### GO and HOLD (sections 4.2 and 4.3) -/

/-- A GO under HOLD: the pending GO, or one more missed (R72). -/
def State.holdGo (s : State) : State × GoOutcome :=
  if s.cue.pendingGo then
    (({ s with cue := { s.cue with missed := min (s.cue.missed + 1) 255 } }).raise .goIgnored, .missed)
  else ({ s with cue := { s.cue with pendingGo := true } }, .pending)

/-- A GO dealt with by the house state (R70). A GO request is refused before this in STOPPED, EVAC and DARK. -/
def State.takeGo (s : State) : State × GoOutcome :=
  match s.house.state with
  | .dark => (s, .refused)
  | .stopped => (s.raise .goIgnored, .refused)
  | .evac => (s.raise .goIgnored, .refused)
  | .preset => if s.holdPresent then s.holdGo else s.enterRunning.fire
  | .running => if s.holdPresent then s.holdGo else s.fire

/-- HOLD set to its new two parts; where it becomes absent, a pending GO is cleared and taken (R73). -/
def State.setHold (line request : Bool) (s : State) : State :=
  let t := { s with cue := { s.cue with holdLine := line, holdRequest := request } }
  if s.holdPresent && !t.holdPresent && s.cue.pendingGo then
    ({ t with cue := { t.cue with pendingGo := false } }).takeGo.1
  else t

/-- The pending GO discarded, with GO_IGNORED where there was one (R72, R81, R82). -/
def State.discardPendingGo (s : State) : State :=
  if s.cue.pendingGo then ({ s with cue := { s.cue with pendingGo := false } }).raise .goIgnored else s

def Latch.disarm (l : Latch) : Latch := { l with armed := false }

/-- TIMECODE_GO: the chase presents its GO where its four conditions hold; the armed mark is cleared first (R69,
R95). The lamp is decided after it (R84). -/
def State.timecodeGo (s : State) : State :=
  if s.canFire then
    ({ s with cue := { s.cue with latch := s.cue.latch.map Latch.disarm } }).takeGo.1.relamp
  else s

/-- Is an action of the run due (R79)? -/
def State.actionIsDue (s : State) (r : Nat) : Bool :=
  !s.house.held &&
    match s.cue.runs.get r with
    | none => false
    | some x => x.actions.any fun a => !a.executed && a.action.delay ≤ x.elapsed

/-- ACTION_DUE: the due actions execute in list order, and a run with nothing left is freed (R79). No parking comes between the
tick that made an action due and its execution: a command from outside takes what has come due first (R81; log entry 1). -/
def State.actionDue (r : Nat) (s : State) : State :=
  if s.actionIsDue r then
    match s.cue.runs.get r with
    | none => s
    | some x => (s.executeDue r fun a => a.delay ≤ x.elapsed).freeIfFinished r
  else s

/-- Is the run's follow at its expiry, its due actions executed (R80)? -/
def State.followIsDue (s : State) (r : Nat) : Bool :=
  !s.house.held && !s.actionIsDue r &&
    match s.cue.runs.get r with
    | none => false
    | some x =>
      match x.follow with
      | .waiting w => x.elapsed ≥ max w 1
      | .absent => false
      | .expired => false

/-- FOLLOW_EXPIRY: the follow EXPIRED, the run freed if it has nothing left, and a GO taken (R80); the lamp is decided
after it (R84). -/
def State.followExpiry (r : Nat) (s : State) : State :=
  if s.followIsDue r then
    ((s.setRun r fun x => { x with follow := .expired }).freeIfFinished r).takeGo.1.relamp
  else s

/-- One tick of a run: its elapsed count rises, and what has come due is due as events (R79, R80). -/
def State.stepRun (s : State) (r : Nat) : State :=
  let t := s.setRun r fun x => { x with elapsed := min (x.elapsed + 1) 60000 }
  let follows := match t.cue.runs.get r with
    | none => false
    | some x =>
      match x.follow with
      | .waiting w => x.elapsed ≥ max w 1
      | .absent => false
      | .expired => false
  (t.enqueueIf (t.actionIsDue r) (.actionDue r)).enqueueIf follows (.followExpiry r)

def State.stepRuns (s : State) : State := if s.house.held then s else s.cue.runs.keys.foldl State.stepRun s

/-- Every BUSY run discarded without executing what remains (R82). -/
def State.dropRuns (s : State) : State := { s with cue := { s.cue with runs := [] } }

/-- The cue engine's values after audio restart; the HOLD line is not the engine's to clear (R86). -/
def State.restartCue (s : State) : State :=
  { s with cue := { s.cue with
      latch := none, pendingGo := false, missed := 0, holdRequest := false, lastFired := none, runs := [],
      darkGap := 0 } }

/-! ### The cue list (section 3.4) -/

/-- Are the counted references of an action present (R51)? -/
def State.refsPresent (s : State) (a : Action) : Bool :=
  match a.kind with
  | .play clip _ _ _ _ _ => s.clips.has clip
  | .ingredient _ src _ _ => !s.absentRole src
  | .call target clip pattern _ =>
    s.clips.has clip && (pattern.all fun k => s.patterns.has k) &&
      match target with
      | .zone z => s.zones.has z
      | _ => true
  | _ => true

/-- Has a cue room: the capacity checks of R50 for a rewrite and for a new cue. -/
def State.cueFits (s : State) (n : Nat) (c : Cue) : Bool :=
  match s.cues.get n with
  | some old => c.actions.length ≤ s.actionsFree + old.actions.length
  | none => s.cues.length < 1024 && c.actions.length ≤ s.actionsFree

/-- A cue stored, and a latched copy of its number marked stale (R50). -/
def State.storeCue (n : Nat) (c : Cue) (s : State) : State := ({ s with cues := s.cues.put n c }).markStale n

/-- WRITE of a cue, after its BAD_FIELD checks: NO_SUCH, then FULL (R50). -/
def State.putCue (n : Nat) (c : Cue) (s : State) : Except Status State :=
  if !c.actions.all s.refsPresent then .error .noSuch
  else if !s.cueFits n c then .error .full
  else .ok (s.storeCue n c)

/-- The number INSERT_CUE forms after an anchor (R52). -/
def State.insertNumber (s : State) (n : Nat) : Option Nat :=
  match s.successor n with
  | some (m, _) => if (n + m) / 2 = n then none else some ((n + m) / 2)
  | none => if n / 100 + 1 = 10000 then none else some ((n / 100 + 1) * 100)

/-- INSERT_CUE, after its BAD_FIELD checks: NO_SUCH, NO_NUMBER, FULL (R52). Answers the number. -/
def State.insertCue (n : Nat) (c : Cue) (s : State) : Except Status (State × Nat) :=
  if !s.cues.has n || !c.actions.all s.refsPresent then .error .noSuch
  else
    match s.insertNumber n with
    | none => .error .noNumber
    | some h => if s.cueFits h c then .ok (s.storeCue h c, h) else .error .full

/-- RETIRE of a cue (R53). -/
def State.dropCue (n : Nat) (s : State) : Except Status State :=
  if s.cues.has n then .ok (({ s with cues := s.cues.erase n }).markStale n) else .error .noSuch

/-- STANDBY, after its BAD_FIELD check (R66). -/
def State.standby (n : Nat) (s : State) : Except Status State :=
  if s.inDark then .error .wrongState
  else
    match s.cues.get n with
    | none => .error .noSuch
    | some c => .ok ((s.latch n c).relamp)

end Sys2Proof.Machine
end

