-- ==== Sys2Proof/Machine/Chase.lean ====
section
/-! DEFINITION. The timecode chase (chapter 5). -/

namespace Sys2Proof.Machine

/-- The frames of 24 hours at 25 a second. -/
def frameCount : Nat := 2160000

/-- The K a qualify index selects (R87). -/
def qualifyK (index : Nat) : Nat := 2 ^ (index + 1)

/-- The chase record moved to a state, CHASE_CHANGED raised where the state differs (R94). -/
def State.setChase (c : Chase) (s : State) : State :=
  let t := { s with chase := c }
  if c.state = s.chase.state then t else t.raise .chaseChanged

/-- Is a frame within the window of the show frame (R89)? -/
def inWindow (w frame f : Nat) : Bool := (if f ≥ frame then f - frame else frame - f) ≤ w

/-- What an arrival makes of the chase record (R88, R89). -/
def Chase.arrival (c : Chase) (w k f : Nat) : Chase :=
  let base := { c with frame := f, tick := 0, silence := 0 }
  let count := min (c.count + 1) 64
  match c.state with
  | .absent => { base with state := .acquiring, count := 1 }
  | .acquiring =>
    if inWindow w c.frame f then { base with state := if count ≥ k then .locked else .acquiring, count := count }
    else { base with count := 1 }
  | .locked =>
    if inWindow w c.frame f then { base with count := count } else { base with state := .acquiring, count := 1 }
  | .freewheel =>
    if inWindow w c.frame f then { base with state := .locked, count := count, freewheel := 0 }
    else { base with state := .acquiring, count := 1, freewheel := 0 }

/-- TIME_FRAME, after its BAD_FIELD check (R88). -/
def State.timeFrame (f : Nat) (s : State) : Except Status State :=
  if s.inDark then .error .wrongState
  else .ok (s.setChase (s.chase.arrival s.settings.window (qualifyK s.settings.qualifyIndex) f)).examine

/-- One tick of the chase: tick count, silence, freewheel time; the ends they reach are due as events, the advance
before the silence, the silence before the freewheel's end, and the examination last (R90 to R93, R95). A tick count
that has reached 40 is brought back to 0 by CHASE_FRAME_ADVANCE. -/
def State.stepChase (s : State) : State :=
  let c := s.chase
  let tick := if c.state = .absent then c.tick else c.tick + 1
  let silence := min (c.silence + 1) 120
  let wheel := if c.state = .freewheel then min (c.freewheel + 1) 10001 else c.freewheel
  let t := { s with chase := { c with tick := tick, silence := silence, freewheel := wheel } }
  let u := t.enqueueIf (c.state != .absent && tick ≥ 40) .chaseFrameAdvance
  let v := u.enqueueIf ((c.state == .locked || c.state == .acquiring) && silence == 120) .chaseSilence
  (v.enqueueIf (c.state == .freewheel && wheel > s.settings.freewheelLimit) .freewheelExpiry).examine

/-- CHASE_FRAME_ADVANCE: the show frame rises by one, on a 24-hour clock, but not in DARK (R90). -/
def State.chaseFrameAdvance (s : State) : State :=
  if s.inDark = false ∧ s.chase.state ≠ .absent ∧ s.chase.tick ≥ 40 then
    ({ s with chase := { s.chase with tick := 0, frame := (s.chase.frame + 1) % frameCount } }).examine
  else s

/-- CHASE_SILENCE: a LOCKED chase freewheels and an ACQUIRING one gives up, but not in DARK (R91). -/
def State.chaseSilence (s : State) : State :=
  if s.inDark = false ∧ s.chase.silence ≥ 120 then
    match s.chase.state with
    | .locked => (s.setChase { s.chase with state := .freewheel, freewheel := 0 }).examine
    | .acquiring => s.setChase { s.chase with state := .absent, count := 0 }
    | .absent => s
    | .freewheel => s
  else s

/-- FREEWHEEL_EXPIRY: the chase enters ABSENT, but not in DARK (R93). It comes due at a tick alone: a limit lowered
between ticks ends the freewheel at the next one (`State.stepChase`, `State.event`). -/
def State.freewheelExpiry (s : State) : State :=
  if s.inDark = false ∧ s.chase.state = .freewheel ∧ s.chase.freewheel > s.settings.freewheelLimit then
    s.setChase { s.chase with state := .absent, count := 0, freewheel := 0 }
  else s

/-- The chase after an audio restart, CHASE_CHANGED once if it was not ABSENT (R98). -/
def State.restartChase (s : State) : State := s.setChase Chase.reset

end Sys2Proof.Machine
end

