-- ==== Sys2Proof/Machine/Foldback.lean ====
section
/-! DEFINITION. Host edits of outputs, programme outputs, zones and recipes (chapters 6 to 8): writes, live and pending
edits, TAKE, DISCARD and SET_CHECK. -/

namespace Sys2Proof.Machine

/-- A move over the edit glide, owner EDIT (R118, R122). -/
def State.edit (el : Element) (level : Nat) (action : Option Completion) (s : State) : State :=
  s.move { element := el, target := level, fade := s.settings.editGlide, owner := .edit, action := action }

/-- An optional edit: an omitted level is left as it stands. -/
def State.editIf (el : Element) (level : Option Nat) (s : State) : State :=
  match level with
  | none => s
  | some c => s.edit el c none

/-! ### Record writes -/

/-- What a WRITE of a foldback output supplies (R118). -/
structure FoldbackWrite where
  label : Label
  master : Option Nat
  announce : Option Nat
  depth : Option Nat
  clips : Bool
deriving DecidableEq, Repr

/-- WRITE of a foldback output, its fields applied (R118). -/
def State.writeOutput (o : Nat) (w : FoldbackWrite) (s : State) : State :=
  ((s.setOutput o fun b =>
    { b with
      label := w.label, announce := w.announce.getD b.announce,
      duckDepth := (w.depth.map fun d => min d 480).getD b.duckDepth, clips := if w.clips then 0 else b.clips }).editIf
    (.foldbackMaster o) w.master)

/-- WRITE of a programme output (R114). -/
def State.writeProgramme (p : Nat) (label : Label) (master : Option Nat) (clips : Bool) (s : State) : State :=
  (s.setProgramme p fun x => { x with label := label, clips := if clips then 0 else x.clips }).editIf
    (.programmeMaster p) master

/-- What a WRITE of a zone supplies (R137). -/
structure ZoneWrite where
  label : Label
  feed : Option Feed
  level : Option Nat
  depth : Option Nat
  duckFade : Option Nat
  restoreFade : Option Nat
  callLevel : Option Nat
  floor : Option Nat
  clips : Bool
deriving DecidableEq, Repr

/-- A zone created at its written values, omitted fields at their defaults (R137). -/
def ZoneWrite.create (w : ZoneWrite) : Zone :=
  { label := w.label, feed := w.feed.getD .none, level := fineOf (w.level.getD 960), duck := 0,
    duckDepth := min (w.depth.getD 360) 480, duckFade := min (w.duckFade.getD 300) 10000,
    restoreFade := min (w.restoreFade.getD 1500) 10000, callLevel := w.callLevel.getD 960,
    floor := w.floor.getD 0, occupant := none, clips := 0 }

/-- The stored fields of a present zone after a WRITE, the feed level apart (R137). -/
def ZoneWrite.rewrite (w : ZoneWrite) (z : Zone) : Zone :=
  { z with
    label := w.label, feed := w.feed.getD z.feed, duckDepth := (w.depth.map fun d => min d 480).getD z.duckDepth,
    duckFade := (w.duckFade.map fun t => min t 10000).getD z.duckFade,
    restoreFade := (w.restoreFade.map fun t => min t 10000).getD z.restoreFade,
    callLevel := w.callLevel.getD z.callLevel, floor := w.floor.getD z.floor,
    clips := if w.clips then 0 else z.clips }

/-- WRITE of a zone (R137). -/
def State.writeZone (z : Nat) (w : ZoneWrite) (s : State) : State :=
  if s.zones.has z then (s.setZone z w.rewrite).editIf (.zoneFeed z) w.level
  else { s with zones := s.zones.put z w.create }

/-! ### Live edits (section 7.4) -/

/-- WRITE of a live ingredient, after its BAD_FIELD checks (R122). -/
def State.writeLive (o : Nat) (src : Source) (level : Nat) (s : State) : Except Status State :=
  if s.absentRole src then .error .noSuch
  else if (ingredientOf (s.output o).live src).isSome then .ok (s.edit (.ingredient o src) level none)
  else if (s.output o).live.length ≥ 16 then .error .full
  else .ok ((s.joinLive o src).edit (.ingredient o src) level none)

/-- RETIRE of a live ingredient, after its BAD_FIELD checks (R123). -/
def State.retireLive (o : Nat) (src : Source) (s : State) : Except Status State :=
  if (ingredientOf (s.output o).live src).isNone then .error .noSuch
  else .ok (s.edit (.ingredient o src) 0 (some (.removeIngredient o src)))

/-! ### The pending recipe (section 7.5) -/

/-- The pending recipe, or the copy of the live one that a first pending edit makes (R124). -/
def State.pendingOrCopy (s : State) (o : Nat) : List PendingIngredient :=
  match (s.output o).pending with
  | some p => p
  | none =>
    ((s.output o).live.filter fun i => !s.departing o i.src).map fun i => ⟨i.src, audible i.level⟩

def State.setPending (o : Nat) (p : Option (List PendingIngredient)) (s : State) : State :=
  s.setOutput o fun b => { b with pending := p }

/-- WRITE of a pending ingredient, after its BAD_FIELD checks (R124). -/
def State.writePending (o : Nat) (src : Source) (level : Nat) (s : State) : Except Status State :=
  let p := s.pendingOrCopy o
  if s.absentRole src then .error .noSuch
  else if p.any (·.src == src) then
    .ok (s.setPending o (some (p.map fun i => if i.src = src then ⟨src, level⟩ else i)))
  else if p.length ≥ 16 then .error .full
  else .ok (s.setPending o (some (p ++ [⟨src, level⟩])))

/-- RETIRE of a pending ingredient, after its BAD_FIELD checks (R125). -/
def State.retirePending (o : Nat) (src : Source) (s : State) : Except Status State :=
  let p := s.pendingOrCopy o
  if p.any (·.src == src) then .ok (s.setPending o (some (p.filter (·.src != src)))) else .error .noSuch

/-! ### TAKE and DISCARD (section 7.6) -/

/-- The pending level of a source. -/
def pendingLevel (p : List PendingIngredient) (src : Source) : Option Nat :=
  (p.find? (·.src == src)).map PendingIngredient.level

def State.takeMove (o glide : Nat) (src : Source) (level : Nat) (action : Option Completion) (s : State) : State :=
  s.move { element := .ingredient o src, target := level, fade := glide, owner := .take, action := action }

/-- The size check of a TAKE: how many ingredients are over 16 (R128). -/
def takeExcess (live : List Ingredient) (p : List PendingIngredient) : Nat :=
  live.length + (p.filter fun i => (ingredientOf live i.src).isNone).length - 16

/-- The ingredients a TAKE removes at once, in live join order (R128). -/
def takeRemoved (live : List Ingredient) (p : List PendingIngredient) : List Source :=
  ((live.map Ingredient.src).filter fun src => (pendingLevel p src).isNone).take (takeExcess live p)

/-- The third step of a TAKE on one live source: both, leaving, or already departing (R127). -/
def takeOne (o glide : Nat) (p : List PendingIngredient) (before : State) (s : State) (src : Source) : State :=
  match pendingLevel p src with
  | some level => s.takeMove o glide src level none
  | none =>
    if before.departing o src then s else s.takeMove o glide src 0 (some (.removeIngredient o src))

/-- A TAKE of a pending recipe (R127, R128). -/
def State.takeRecipe (o glide : Nat) (p : List PendingIngredient) (s : State) : State :=
  let live := (s.output o).live
  let removed := takeRemoved live p
  let staying := (live.map Ingredient.src).filter fun src => !removed.contains src
  let arriving := p.filter fun i => (ingredientOf live i.src).isNone
  let t := removed.foldl (fun t src => t.removeIngredient o src) s
  let u := staying.foldl (takeOne o glide p s) t
  let w := arriving.foldl (fun w i => (w.joinLive o i.src).takeMove o glide i.src i.level none) u
  w.setPending o none

/-- TAKE, after its BAD_FIELD checks; an omitted glide is the edit glide (R127). -/
def State.take (o : Nat) (glide : Option Nat) (s : State) : Except Status State :=
  match (s.output o).pending with
  | none => .error .noSuch
  | some p => .ok (s.takeRecipe o (glide.getD s.settings.editGlide) p)

/-- DISCARD, after its BAD_FIELD checks (R129). -/
def State.discard (o : Nat) (s : State) : Except Status State :=
  if (s.output o).pending.isNone then .error .noSuch else .ok (s.setPending o none)

/-- SET_CHECK, after its BAD_FIELD checks (R133). -/
def State.setCheck (o : Nat) (c : CheckState) (s : State) : Except Status State :=
  if s.house.state != .preset then .error .wrongState
  else if c == .tone && (s.gen 1).use == .chime then .error .inUse
  else .ok (s.setOutput o fun b => { b with check := c }).lineCheck

end Sys2Proof.Machine
end

