-- ==== Sys2Proof/Machine/Sound.lean ====
section
/-! DEFINITION. The mixing engine and what it sounds in one sample period: voices, generators, contributions, sums,
limiting, ports, and the sample clock's divider (R1 to R7, R101, R106, R113, R115, R130 to R134, R139, R140, R186). -/

namespace Sys2Proof.Machine

/-! ### Voices in a sample period -/

/-- How a voice sounds: nothing, its tail, or its playback advancing (R101, R109, R110). -/
inductive Sounding where
  | silent
  | tail
  | advance
deriving DecidableEq, Repr

/-- How a voice sounds in this period: a CUE-owned CLOSING voice sounds its tail while the stop context is held, and
one closing for an end sounds its tail; one closing for a steal advances otherwise, where it holds its clip and is primed, as a
PLAYING one does (log entry 32). -/
def State.sounding (s : State) (x : Voice) : Sounding :=
  match x.state with
  | .idle => .silent
  | .paused => .tail
  | .playing => if x.primed then .advance else .silent
  | .closing =>
    match x.cause with
    | some .ending => .tail
    | _ =>
      if x.owner = .cue ∧ s.house.held then .tail
      else if x.clip.isNone || !x.primed then .silent else .advance

/-- Primed is set in the first sample period after the first refill has arrived (R104), of a parked voice too (log entry 32). -/
def Voice.prime (x : Voice) : Voice := if x.state ≠ .idle ∧ !x.buffer.isEmpty then { x with primed := true } else x

/-- A voice's tail sounded: the next sample of the buffer from the position onward, left in place; 0, and no place passed,
while every sample the buffer holds has been sounded once (R101), and once the gate is CLOSED, whatever a late refill brings then
(R101, R103). -/
def Voice.soundTail (x : Voice) : Voice × Sample :=
  if x.gate.state = .closed then (x, 0)
  else
    match x.buffer[x.tail]? with
    | some b => ({ x with tail := x.tail + 1 }, b)
    | none => (x, 0)

/-- A playback advanced by one place (R106). -/
def Voice.moveOn (c : Clip) (x : Voice) : Voice :=
  let at_ := c.advance ⟨x.position, x.loops⟩
  { x with position := at_.index, loops := at_.loops }

/-- An empty buffer when a sample is due: UNDERRUN, the position advances, and what is in flight for that place is
marked passed, or the cursor is brought up (R113); a voice closing for a steal counts one as a PLAYING voice does (log entry
32). -/
def State.underrun (v : Nat) (c : Clip) (s : State) : State :=
  let t := s.setVoice v (Voice.moveOn c)
  let u := if s.inFlight v > 0 then
      { t with voiceUnit := { t.voiceUnit with
          refill := t.voiceUnit.refill.map fun r => { r with passed := r.passed + 1 } } }
    else t.setVoice v fun x => { x with cursor := ⟨x.position, x.loops⟩ }
  u.countUnderrun

/-- A playing voice's sample: the head of its buffer, or an underrun's 0 (R106, R113). -/
def State.soundPlayback (v : Nat) (c : Clip) (s : State) : State × Sample :=
  match (s.voice v).buffer with
  | [] => (s.underrun v c, 0)
  | b :: rest => (s.setVoice v fun x => { x with buffer := rest }.moveOn c, b)

/-- One voice in one sample period: its sample, the end of its clip due as CLIP_END, its refill requested. -/
def State.soundVoice (v : Nat) (s : State) : State × Sample :=
  let t := s.setVoice v Voice.prime
  let x := t.voice v
  match t.sounding x with
  | .silent => (t.requestRefill v, 0)
  | .tail => ((t.setVoice v fun y => y.soundTail.1).requestRefill v, x.soundTail.2)
  | .advance =>
    match x.clip.bind t.clips.get with
    | none => (t, 0)
    | some c =>
      let heard := t.soundPlayback v c
      ((heard.1.enqueueIf ((heard.1.voice v).position ≥ c.length) (.clipEnd v)).requestRefill v, heard.2)

/-- Every voice in one sample period, in order, and the samples they sound. -/
def State.soundVoices (s : State) : State × Table Sample :=
  s.voices.keys.foldl
    (fun (acc : State × Table Sample) v =>
      let heard := acc.1.soundVoice v
      (heard.1, acc.2 ++ [(v, heard.2)]))
    (s, [])

/-- Has the voice's playback reached the end of its clip? -/
def State.clipEnded (s : State) (v : Nat) : Bool :=
  match (s.voice v).clip.bind s.clips.get with
  | none => false
  | some c => (s.voice v).state != .idle && (s.voice v).position ≥ c.length

/-- CLIP_END: under a steal's close the old clip is held no more (R106); otherwise the playback ends, and a call voice's
message is delivered (R108, R151). -/
def State.clipEnd (v : Nat) (s : State) : State :=
  if s.clipEnded v then
    let x := s.voice v
    if x.state = .closing ∧ x.cause = some .steal then
      (s.disown v).setVoice v fun y => { y with clip := none, buffer := [], requested := false }
    else
      match x.owner with
      | .call id => (s.endVoice v).delivered id
      | .cue => s.endVoice v
      | .none => s.endVoice v
  else s

/-! ### Sources -/

/-- The input sample of channel `n` in a period (R7). -/
def inputSample (inp : InPorts) (n : Nat) : Int :=
  let port := if n ≤ 16 then inp.a else if n ≤ 32 then inp.b else if n ≤ 48 then inp.c else inp.d
  ((port.toList).getD ((n - 1) % 16) 0).toInt

/-- What sounds in one period: the input channels, the voices' samples, the programme outputs' samples of the period
before (R4). -/
structure Heard where
  inp : InPorts
  voices : Table Sample
  programme : Table Sample
deriving DecidableEq, Repr

def Heard.voice (h : Heard) (v : Nat) : Int := ((h.voices.get v).getD 0).toInt

def Heard.prog (h : Heard) (p : Nat) : Int := ((h.programme.get p).getD 0).toInt

/-- The message sample of a call's pass in MESSAGE: its voice's, once its own playback has begun, or its source channel's
(R151, R152). -/
def State.messageSample (s : State) (h : Heard) (id : Nat) (c : Call) : Int :=
  match c.kind with
  | .live n => inputSample h.inp n
  | .clip _ =>
    match c.voice with
    | .held v => if (s.voice v).owner = .call id ∧ (s.voice v).state = .playing then h.voice v else 0
    | .waiting => 0
    | .none => 0

/-- The generator of a call's pass in CHIME. -/
def State.chimeGen (s : State) (c : Call) : Option Generator := c.gen.bind s.gens.get

/-- The stage sample (R140). -/
def State.stageSample (s : State) (h : Heard) : Int :=
  match s.relay.stage with
  | none => 0
  | some o =>
    match s.call o.id with
    | none => 0
    | some c =>
      match c.phase with
      | .chime =>
        match s.chimeGen c with
        | none => 0
        | some g => contribution g.output (combine [g.tune.level] [])
      | .message => s.messageSample h o.id c
      | _ => 0

/-! ### Contributions -/

def sumInt (xs : List Int) : Int := xs.foldl (· + ·) 0

/-- Does the voice contribute to programme outputs: CUE-owned and not IDLE, or the old cue playback of a voice stolen by
a call (R115, R103; log entry 19)? -/
def Voice.onProgramme (x : Voice) : Bool :=
  x.state != .idle && (x.owner == .cue || (x.state == .closing && x.cause == some .steal))

/-- One voice's contribution to a programme output (R115). -/
def State.voiceContribution (s : State) (h : Heard) (p : Nat) (v : Nat) : Int :=
  let x := s.voice v
  match x.clip.bind s.clips.get with
  | none => 0
  | some c =>
    if x.onProgramme && x.route.contains p then
      contribution (h.voice v)
        (combine [audible x.level, c.trim, audible (s.fine (.programmeMaster p)), audible x.gate.term.fine] [])
    else 0

/-- The sum of a programme output (R115). -/
def State.programmeSum (s : State) (h : Heard) (p : Nat) : Int :=
  sumInt (s.voices.keys.map (s.voiceContribution h p))

/-- The protect of a channel, as its audible code. -/
def State.protectCode (s : State) (ch : Nat) : Nat := audible (s.fine (.protect ch))

/-- One side of a ROLE ingredient: its channel scaled by level, master, its term, less protect and stage duck (R130). -/
def State.roleSide (s : State) (h : Heard) (b : Foldback) (i : Ingredient) (ch : Nat) (term : Nat) : Int :=
  contribution (inputSample h.inp ch)
    (combine [audible i.level, audible b.master, audible term] [s.protectCode ch, audible b.duck])

/-- The contributions of one live ingredient (R130, R131). -/
def State.ingredientSum (s : State) (h : Heard) (b : Foldback) (i : Ingredient) : Int :=
  match i.src with
  | .input n =>
    contribution (inputSample h.inp n)
      (combine [audible i.level, audible b.master] [s.protectCode n, audible b.duck])
  | .programme p =>
    contribution (h.prog p) (combine [audible i.level, audible b.master] [audible b.duck])
  | .role _ =>
    (match i.channel with
      | none => 0
      | some ch => s.roleSide h b i ch i.rebind.fine) +
    (match i.outgoing with
      | none => 0
      | some out => s.roleSide h b i out.channel out.term.fine)

/-- The sum of a foldback output by its check state (R130 to R134). -/
def State.foldbackSum (s : State) (h : Heard) (stage : Int) (b : Foldback) : Int :=
  match b.check with
  | .mute => 0
  | .tone => contribution (s.gen 1).output (combine [audible b.master] [])
  | .normal =>
    sumInt (b.live.map (s.ingredientSum h b)) + contribution stage (combine [b.announce] [])

/-- The feed contribution of a zone (R139). -/
def feedSum (h : Heard) (z : Zone) : Int :=
  let c := combine [audible z.level] [audible z.duck]
  match z.feed with
  | .input n => contribution (inputSample h.inp n) c
  | .programme p => contribution (h.prog p) c
  | .none => 0

/-- The chime or message contribution of a zone's occupant (R139). -/
def State.callSum (s : State) (h : Heard) (z : Zone) : Int :=
  match z.occupant with
  | none => 0
  | some o =>
    match s.call o.id with
    | none => 0
    | some c =>
      match c.phase with
      | .chime =>
        match s.chimeGen c with
        | none => 0
        | some g => contribution g.output (combine [g.tune.level, z.callLevel] [])
      | .message => contribution (s.messageSample h o.id c) (combine [z.callLevel] [])
      | _ => 0

def State.zoneSum (s : State) (h : Heard) (z : Zone) : Int := feedSum h z + s.callSum h z

/-! ### The 48 outputs -/

/-- An output sum as it is sent (R5). -/
def sent (x : Int) : Sample := BitVec.ofInt 24 (limit x)

/-- A clip count after one period's sum (R5). -/
def clipAfter (clips : Nat) (x : Int) : Nat := if saturates x then saturate (clips + 1) else clips

/-- The 48 sums of a period (R4). -/
structure Sums where
  foldback : Table Int
  programme : Table Int
  zone : Table Int
deriving DecidableEq, Repr

def State.sums (s : State) (h : Heard) : Sums :=
  let stage := s.stageSample h
  { foldback := s.outputs.mapRecords fun _ b => s.foldbackSum h stage b,
    programme := s.programmes.mapRecords fun p _ => s.programmeSum h p,
    zone := s.zones.mapRecords fun _ z => s.zoneSum h z }

/-- How many of the sums are limited. -/
def Sums.saturated (m : Sums) : Nat :=
  countIn m.foldback saturates + countIn m.programme saturates + countIn m.zone saturates

/-- The samples of the period; a zone that is absent has 0 (R7). -/
def Sums.mix (m : Sums) : Mix :=
  { foldback := m.foldback.mapRecords fun _ x => sent x,
    programme := m.programme.mapRecords fun _ x => sent x,
    zone := (numbered 16 (0 : Int)).mapRecords fun z _ => sent ((m.zone.get z).getD 0) }

/-- The sums limited, counted and held as the period's samples (R4, R5). -/
def State.takeSums (m : Sums) (s : State) : State :=
  ({ s with
    outputs := s.outputs.mapRecords fun o b => { b with clips := clipAfter b.clips ((m.foldback.get o).getD 0) },
    programmes := s.programmes.mapRecords fun p x =>
      { x with clips := clipAfter x.clips ((m.programme.get p).getD 0) },
    zones := s.zones.mapRecords fun z x => { x with clips := clipAfter x.clips ((m.zone.get z).getD 0) },
    mix := m.mix }).countClipped m.saturated

/-- Where each output's sample is sent: ports X, Y and Z, slots 1 to 16; the slot of an absent zone carries 0 (R7). A
zone retired since its sample was formed is absent: its slot carries 0 from the next sample (R138), and the sample formed
before is not sent (log entry 35). -/
def Mix.ports (m : Mix) (zonePresent : Nat → Bool) : OutPorts :=
  { x := (numbered 16 ()).mapRecords fun n _ => (m.foldback.get n).getD 0,
    y := (numbered 16 ()).mapRecords fun n _ =>
      if n ≤ 8 then (m.foldback.get (n + 16)).getD 0 else (m.programme.get (n - 8)).getD 0,
    z := (numbered 16 ()).mapRecords fun n _ => if zonePresent n then (m.zone.get n).getD 0 else 0 }

/-- The mixing engine's period: the last period's samples are sent, but for those of zones retired since (log entry 35), and
this period's formed; in DARK 0 is sent and nothing is formed, and a generator's output stays as it stood (R4, R6, R173; log
entry 43). -/
def State.mixPeriod (inp : InPorts) (s : State) : State :=
  if s.inDark then { s with ports := OutPorts.silent, mix := Mix.silent }
  else
    let heard := s.soundVoices
    let t := heard.1.soundGens
    let u := t.takeSums (t.sums { inp := inp, voices := heard.2, programme := s.mix.programme })
    { u with ports := s.mix.ports s.zones.has }

/-- The internal divider's period: the values in use taken, the fraction added, the length (R186). -/
def State.dividePeriod (s : State) : State :=
  match s.clock.source with
  | .external => s
  | .internal =>
    let sum := s.clock.acc + s.settings.divFrac
    let clock : Clock :=
      { s.clock with
        divInt := s.settings.divInt, divFrac := s.settings.divFrac,
        acc := if sum ≥ 65536 then sum - 65536 else sum,
        period := if sum ≥ 65536 then s.settings.divInt + 1 else s.settings.divInt }
    { s with clock := clock }

/-- One sample period counted toward the next control tick (R182). -/
def State.countPeriod (s : State) : State :=
  { s with house := { s.house with tickDiv := s.house.tickDiv + 1 } }

end Sys2Proof.Machine
end

