-- ==== Sys2Proof/Machine/House.lean ====
section
/-! DEFINITION. The house controller (chapter 10): parking, the transitions of the house state, DARK and wake, the
audio restart and the power-on reset, and the sample clock's source. -/

namespace Sys2Proof.Machine

/-! ### Parking and the stop context (R176) -/

def State.setHeld (held : Bool) (s : State) : State := { s with house := { s.house with held := held } }

/-- Parking: the stop context held with held time 0, CUE ramps frozen, a pending GO discarded, CUE voices parked. -/
def State.park (s : State) : State :=
  (({ s with house := { s.house with held := true, heldTime := 0 } }).freeze).discardPendingGo.parkVoices

/-! ### Audio restart (R183) -/

/-- The voice unit's part: every playback ended without a report, the waiting list emptied, the refill in flight
disowned, the last voice served 16 (R117). -/
def State.restartVoices (s : State) : State :=
  let unit : VoiceUnit :=
    { s.voiceUnit with
      waiting := [], lastServed := 16,
      refill := s.voiceUnit.refill.map fun r => { r with disowned := true } }
  { s with voices := s.voices.mapRecords fun _ x => x.ended, voiceUnit := unit }

/-- The foldback unit's part: stage ducks 0, check states NORMAL, generator 1 released (R136). -/
def State.restartFoldback (s : State) : State :=
  ({ s with outputs := s.outputs.mapRecords fun _ b => { b with duck := 0 } }).checksNormal

/-- The chime unit's part: every generator freed (R173). -/
def State.restartGens (s : State) : State := { s with gens := s.gens.mapRecords fun _ _ => Generator.reset }

/-- The stop context cleared (R183). -/
def State.clearStop (s : State) : State := { s with house := { s.house with held := false, heldTime := 0 } }

/-- An audio restart: complete all, then each block's running state cleared (R183). -/
def State.audioRestart (s : State) : State :=
  s.completeAll.restartVoices.restartCast.restartCue.restartChase.restartFoldback.restartRelay.restartGens.clearStop

/-! ### Leaving DARK (R182, R196) -/

/-- The HOLD line level and the PTT pressed level taken afresh from the debounced states of their lines (R196; as they stand in
DARK: log entry 22). -/
def State.freshLevels (s : State) : State :=
  { s with
    cue := { s.cue with holdLine := s.lineLevel .hold },
    relay := { s.relay with pttPressed := s.lineLevel .ptt } }

/-- The division into ticks restarted and an audio restart made (R182, R179). -/
def State.rouse (s : State) : State :=
  ({ s with house := { s.house with tickDiv := 0 } }).audioRestart.freshLevels

/-! ### The transitions (R174 to R182), each from a state in which its cause is taken -/

def State.stopNow (s : State) : State := ((s.setHouse .stopped).park).relamp

def State.resumeNow (s : State) : State :=
  ((((s.setHouse .running).setHeld false).unfreeze).resumeVoices.checksNormal.examine).relamp

/-- END_SHOW: runs and a pending GO discarded, and from STOPPED the parked remains cleared (R178). -/
def State.endNow (s : State) : State :=
  let stopped := s.house.state == .stopped
  let t := (s.setHouse .preset).dropRuns.discardPendingGo
  ((if stopped then (t.dropFrozen.endShowVoices).setHeld false else t).examine).relamp

/-- EVAC, its effects in the order of R179. -/
def State.evacNow (s : State) : State :=
  let woken := if s.inDark then s.rouse else s
  let entered := woken.setHouse .evac
  let parked := if s.house.state == .stopped then entered else entered.park
  (parked.checksNormal.evacuate).relamp

def State.clearEvacNow (s : State) : State := ((s.setHouse .stopped).endEvacuation).relamp

/-- DARK: a pending GO discarded, every ramp completed, the clip port idle (R181, R112), so that a refill in flight is
dropped (log entry 23). -/
def State.darkNow (s : State) : State :=
  let t := (s.discardPendingGo.completeAll).setHouse .dark
  ({ t with voiceUnit := { t.voiceUnit with refill := none } }).relamp

/-- WAKE: HOUSE_CHANGED once, PRESET (R182). -/
def State.wakeNow (s : State) : State := ((s.rouse).setHouse .preset).relamp

/-! ### The causes as requests: taken, or WRONG_STATE (R174) -/

def State.stopShow (s : State) : Except Status State :=
  if s.house.state == .running then .ok s.stopNow else .error .wrongState

def State.resume (s : State) : Except Status State :=
  if s.house.state == .stopped then .ok s.resumeNow else .error .wrongState

def State.endShow (s : State) : Except Status State :=
  if s.house.state == .running || s.house.state == .stopped then .ok s.endNow else .error .wrongState

def State.evac (s : State) : Except Status State :=
  if s.house.state == .evac then .error .wrongState else .ok s.evacNow

def State.clearEvac (s : State) : Except Status State :=
  if s.house.state == .evac && !s.lineLevel .evac then .ok s.clearEvacNow else .error .wrongState

/-- May DARK be entered: PRESET, no call present, every voice IDLE (R181)? -/
def State.mayDarken (s : State) : Bool :=
  s.house.state == .preset && s.relay.calls.isEmpty && s.voicesBusy == 0

def State.dark (s : State) : Except Status State :=
  if s.mayDarken then .ok s.darkNow else .error .wrongState

def State.wake (s : State) : Except Status State :=
  if s.inDark then .ok s.wakeNow else .error .wrongState

def State.restartAudio (s : State) : Except Status State :=
  if s.house.state == .preset then .ok s.audioRestart.relamp else .error .wrongState

/-- A cause that arrives from a line: ignored where it is not taken (R174). -/
def takenOr (r : Except Status State) (s : State) : State :=
  match r with
  | .ok t => t
  | .error _ => s

/-! ### Power-on reset (R184) -/

/-- A line as the release of RESET leaves it: its record reset, the level at its pin not the part's to change. -/
def Line.released (l : Line) : Line := { Line.reset with pin := l.pin }

/-- RESET active and released: the state after reset, with the pins as they stand and the queue as it waits. -/
def State.powerOnReset (s : State) : State :=
  { State.reset with lines := s.lines.mapRecords fun _ l => l.released, pending := s.pending }

/-! ### The sample clock (R185, R187) -/

/-- CLOCK_SELECTION: EXTERNAL if an edge came in the millisecond, else INTERNAL; no event (R185). -/
def State.selectClock (edge : Bool) (s : State) : State :=
  if s.clock.selecting then
    { s with clock := { s.clock with
        selecting := false, wclk := edge, source := if edge then .external else .internal } }
  else s

/-- WCLK_LOSS: a switch waiting is abandoned; an EXTERNAL source becomes INTERNAL with its accumulator at 0 (R185,
R187). -/
def State.wclkLoss (s : State) : State :=
  if s.clock.wclk then
    let t := { s with clock := { s.clock with wclk := false, switching := false } }
    match s.clock.source with
    | .internal => t
    | .external => ({ t with clock := { t.clock with source := .internal, acc := 0 } }).raise .clockChanged
  else s

/-- WCLK_RETURN: CLOCK_CHANGED, the source unchanged (R185). -/
def State.wclkReturn (s : State) : State :=
  if s.clock.wclk || s.clock.selecting then s
  else ({ s with clock := { s.clock with wclk := true } }).raise .clockChanged

/-- USE_EXTERNAL_CLOCK (R187). -/
def State.useExternal (s : State) : Except Status State :=
  if !s.clock.wclk then .error .wrongState
  else
    match s.clock.source with
    | .external => .ok s
    | .internal => .ok { s with clock := { s.clock with switching := true } }

/-- EXTERNAL_CLOCK_SWITCH: the next WCLK edge after a taken USE_EXTERNAL_CLOCK (R187). -/
def State.switchClock (s : State) : State :=
  if s.clock.switching then
    ({ s with clock := { s.clock with switching := false, source := .external } }).raise .clockChanged
  else s

end Sys2Proof.Machine
end

