-- ==== Sys2Proof/Machine/Lines.lean ====
section
/-! DEFINITION. The control lines (section 11.4): the levels the output lines drive, debounce, activations and releases, and
WRITE of a line. -/

namespace Sys2Proof.Machine

/-! ### The output lines and the lamp (R84, R85, R195, R197) -/

/-- Is the lamp lit: ON, or FLASH in its lit half (R84)? -/
def State.lampLit (s : State) : Bool :=
  match s.cue.lamp with
  | .off => false
  | .on => true
  | .flash => s.cue.lit

/-- Is an output line active (R85, R197)? `none` for a line that drives nothing (R195). -/
def State.outputActive (s : State) (l : Line) : Option Bool :=
  match l.function with
  | .cueLight => some (if l.manual then l.latch else s.lampLit)
  | .generalOut => some l.latch
  | _ => none

/-- The level driven at a pin: high as true, by the polarity; `none` for a pin left undriven (R195, R197). -/
def State.drivenPin (s : State) (l : Nat) : Option Bool :=
  (s.outputActive (s.line l)).map fun active => active != (s.line l).activeLow

/-! ### Debounce (R196) -/

/-- The row of the opcode table that a change of debounced state of a line is, where it is one. -/
def edgeEvent (f : LineFunction) (active : Bool) (l : Nat) : Option Event :=
  match f, active with
  | .go, true => some (.goLine l)
  | .hold, true => some (.holdLine l)
  | .hold, false => some (.holdRelease l)
  | .stop, true => some (.stopLine l)
  | .resume, true => some (.resumeLine l)
  | .evac, true => some (.evacLine l)
  | .evac, false => some (.evacRelease l)
  | .wake, true => some (.wakeLine l)
  | .ptt, true => some (.pttPress l)
  | .ptt, false => some (.pttRelease l)
  | _, _ => none

/-- Does the unit report this function in this house state: in DARK, EVAC and WAKE alone (R196)? -/
def State.reports (s : State) (f : LineFunction) : Bool := !s.inDark || f == .evac || f == .wake

/-- A change of debounced state: reported as an event where it is one, else taken in silence. -/
def State.edge (l : Nat) (s : State) : State :=
  let x := s.line l
  match if s.reports x.function then edgeEvent x.function (!x.active) l else none with
  | some e => s.enqueue e
  | none => s.setLine l fun y => { y with active := !y.active, count := 0 }

/-- One tick of one line: its pin sampled, and a live line's debounce count (R196). A count of 10 stands until the
event that takes the new state. -/
def State.stepLine (pins : BitVec 12) (s : State) (l : Nat) : State :=
  let pin := pins.getLsbD (l - 1)
  let t := s.setLine l fun x => { x with pin := pin }
  let x := t.line l
  if !x.live then t
  else if x.pinActive pin == x.active then t.setLine l fun y => { y with count := 0 }
  else
    let u := t.setLine l fun y => { y with count := min (y.count + 1) 10 }
    if x.count + 1 ≥ 10 then u.edge l else u

def State.stepLines (pins : BitVec 12) (s : State) : State := s.lines.keys.foldl (State.stepLine pins) s

/-- The levels last sampled at the pins, bit n − 1 for line n. -/
def State.pins (s : State) : BitVec 12 :=
  s.lines.foldl (fun acc kl => if kl.2.pin then acc ||| (1#12 <<< (kl.1 - 1)) else acc) 0#12

/-! ### Activations and releases -/

/-- A live line of a function whose debounced state is the other one takes the new state, if the unit reports it. -/
def State.flips (s : State) (l : Nat) (f : LineFunction) (active : Bool) : Bool :=
  s.lines.has l && (s.line l).live && (s.line l).function == f && (s.line l).active != active && s.reports f

def State.setActive (l : Nat) (active : Bool) (s : State) : State :=
  s.setLine l fun x => { x with active := active, count := 0 }

/-- The HOLD line level as the lines now give it, and what follows (R71, R73). -/
def State.reportHold (s : State) : State :=
  if s.inDark then s else (s.setHold (s.lineLevel .hold) s.cue.holdRequest).relamp

def State.goLine (l : Nat) (s : State) : State :=
  if s.flips l .go true then (s.setActive l true).takeGo.1.relamp else s

def State.holdLine (l : Nat) (s : State) : State :=
  if s.flips l .hold true then (s.setActive l true).reportHold else s

def State.holdRelease (l : Nat) (s : State) : State :=
  if s.flips l .hold false then (s.setActive l false).reportHold else s

def State.stopLine (l : Nat) (s : State) : State :=
  if s.flips l .stop true then
    let t := s.setActive l true
    takenOr t.stopShow t
  else s

def State.resumeLine (l : Nat) (s : State) : State :=
  if s.flips l .resume true then
    let t := s.setActive l true
    takenOr t.resume t
  else s

def State.evacLine (l : Nat) (s : State) : State :=
  if s.flips l .evac true then
    let t := s.setActive l true
    takenOr t.evac t
  else s

def State.evacRelease (l : Nat) (s : State) : State :=
  if s.flips l .evac false then s.setActive l false else s

def State.wakeLine (l : Nat) (s : State) : State :=
  if s.flips l .wake true then
    let t := s.setActive l true
    takenOr t.wake t
  else s

def State.pttPress (l : Nat) (s : State) : State :=
  if s.flips l .ptt true then
    let t := s.setActive l true
    t.reportPtt (t.lineLevel .ptt)
  else s

def State.pttRelease (l : Nat) (s : State) : State :=
  if s.flips l .ptt false then
    let t := s.setActive l false
    t.reportPtt (t.lineLevel .ptt)
  else s

/-! ### WRITE of a line (R195) -/

/-- What a WRITE of a line supplies. -/
structure LineWrite where
  function : Option LineFunction
  activeLow : Option Bool
  enabled : Option Bool
  manual : Option Bool
  latch : Option Bool
deriving DecidableEq, Repr

/-- The record with the supplied fields replaced. -/
def LineWrite.apply (w : LineWrite) (l : Line) : Line :=
  { l with
    function := w.function.getD l.function, activeLow := w.activeLow.getD l.activeLow,
    enabled := w.enabled.getD l.enabled, manual := w.manual.getD l.manual, latch := w.latch.getD l.latch }

/-- Does a write leave a live line as it was: live, with its function and polarity? -/
def Line.sameInput (old new : Line) : Bool :=
  old.live && new.live && old.function == new.function && old.activeLow == new.activeLow

/-- The release that a function sees when a line leaves it (R195): HOLD may become absent, the call marked PTT may
end. -/
def State.leaveFunction (f : LineFunction) (s : State) : State :=
  match f with
  | .hold => s.reportHold
  | .ptt => s.reportPtt (s.lineLevel .ptt)
  | _ => s

/-- The level of a function taken at once from a line made live, nothing reported (R195). -/
def State.joinFunction (f : LineFunction) (s : State) : State :=
  if s.inDark then s
  else
    match f with
    | .hold => ({ s with cue := { s.cue with holdLine := s.lineLevel .hold } }).relamp
    | .ptt => { s with relay := { s.relay with pttPressed := s.lineLevel .ptt } }
    | _ => s

/-- WRITE of a line, after its BAD_FIELD checks (R195). An active line that is given another function or another polarity is
released first and takes its new state after; R195 orders neither, and takes a change of polarity as a change of function to the
same function, so that HOLD may go absent, and the PTT call end, before the same line is active again (log entry 47). -/
def State.writeLine (l : Nat) (w : LineWrite) (s : State) : State :=
  let old := s.line l
  let new := w.apply old
  if old.sameInput new || !(old.live || new.live) then s.setLine l fun _ => new
  else
    let resting := s.setLine l fun _ => if new.live then { new with active := false, count := 0 } else new
    let left := if old.live && old.active then resting.leaveFunction old.function else resting
    if new.live then
      (left.setLine l fun x => { x with active := x.pinActive x.pin }).joinFunction new.function
    else left

end Sys2Proof.Machine
end

