-- ==== Sys2Proof/Machine/Events.lean ====
section
/-! DEFINITION. Events that have come due, taken from the agenda; the control tick; the sample period. -/

namespace Sys2Proof.Machine

/-- The effect of an internal event. -/
def State.takeEvent (e : Event) (s : State) : State :=
  match e with
  | .clipEnd v => s.clipEnd v
  | .markEnd g => s.markEnd g
  | .cycleEnd g => s.cycleEnd g
  | .chimeComplete g => s.chimeComplete g
  | .refillGrant => s.grantRefill
  | .rampComplete n => s.rampComplete n
  | .gateClosed v => s.gateClosed v
  | .gateOpened v => s.gateOpened v
  | .crossfadeEnd o src => s.crossfadeEnd o src
  | .packTimeout p => s.packTimeout p
  | .actionDue r => s.actionDue r
  | .followExpiry r => s.followExpiry r
  | .darkGapEnd => s.darkGapEnd
  | .flashPhase => s.flashPhase
  | .chaseFrameAdvance => s.chaseFrameAdvance
  | .chaseSilence => s.chaseSilence
  | .freewheelExpiry => s.freewheelExpiry
  | .timecodeGo => s.timecodeGo
  | .openingEnd c => s.openingEnd c
  | .closingEnd c => s.closingEnd c
  | .gapEnd c => s.gapEnd c
  | .liveMaximum c => s.liveMaximum c
  | .goLine l => s.goLine l
  | .holdLine l => s.holdLine l
  | .holdRelease l => s.holdRelease l
  | .stopLine l => s.stopLine l
  | .resumeLine l => s.resumeLine l
  | .evacLine l => s.evacLine l
  | .evacRelease l => s.evacRelease l
  | .wakeLine l => s.wakeLine l
  | .pttPress l => s.pttPress l
  | .pttRelease l => s.pttRelease l

/-- The events on the agenda taken in order, up to a number of them (log entries 1 and 6). -/
def settleUpTo : Nat → State → State
  | 0, s => s
  | n + 1, s =>
    match s.agenda with
    | [] => s
    | e :: rest => settleUpTo n (State.takeEvent e { s with agenda := rest })

/-- Every event that has come due taken, before a command from outside the part is. -/
def State.settle (s : State) : State := settleUpTo 4096 s

/-- The agenda taken in order as far as an event, that event included; nothing more once it stands there no longer. -/
def takeThrough (e : Event) : Nat → State → State
  | 0, s => s
  | n + 1, s =>
    match s.agenda with
    | [] => s
    | f :: rest =>
      if f = e then State.takeEvent e { s with agenda := rest }
      else if e ∈ rest then takeThrough e n (State.takeEvent f { s with agenda := rest })
      else s

/-- An internal event that comes as a command of its own: what came due before it is taken first, in the order in which it
came due, so that no event of a tick overtakes another (R81, R91, R93; log entry 1). An event that has not come due does
not stand on the agenda, and its command changes nothing (log entry 3). -/
def State.event (e : Event) (s : State) : State := takeThrough e s.agenda.length s

/-! ### The control tick (R182) -/

/-- The dark gap falls by one (R84). -/
def State.stepGap (s : State) : State :=
  if s.cue.darkGap = 0 then s
  else
    ({ s with cue := { s.cue with darkGap := s.cue.darkGap - 1 } }).enqueueIf (s.cue.darkGap == 1) .darkGapEnd

/-- The flash phase's count, while the lamp is FLASH (R84). -/
def State.stepFlash (s : State) : State :=
  if s.cue.lamp = .flash then
    ({ s with cue := { s.cue with flashCount := s.cue.flashCount + 1 } }).enqueueIf
      (s.cue.flashCount + 1 ≥ 250) .flashPhase
  else s

/-- The held time, while the stop context is held (R176). -/
def State.stepHeld (s : State) : State :=
  if s.house.held then { s with house := { s.house with heldTime := min (s.house.heldTime + 1) 86400000 } } else s

/-- One control tick, with the levels at the pins: in DARK it reaches the control line unit alone (R182). -/
def State.controlTick (pins : BitVec 12) (s : State) : State :=
  let t := { s with house := { s.house with tickDiv := 0 } }
  if s.inDark then t.stepLines pins
  else
    (t.stepRamps.stepGates.stepAllCrossfades.stepPacks.stepRuns.stepGap.stepFlash.stepChase.stepCalls.stepHeld).stepLines
      pins

/-! ### The sample period (R4) -/

/-- The control tick that 48 sample periods have made due, where the sender has not sent it (log entry 5). -/
def State.dueTick (s : State) : State :=
  if s.house.tickDiv ≥ 48 then (s.controlTick s.pins).settle else s

def State.samplePeriod (inp : InPorts) (s : State) : State :=
  (s.dueTick.dividePeriod.mixPeriod inp).countPeriod

end Sys2Proof.Machine
end

