-- ==== Sys2Proof/WellFormed.lean ====
section
/-! DEFINITION. Well-formed commands: operands within the ranges the spec gives them. The machine runs on
every command; an ill-formed one names something the part does not have, and changes nothing or is
answered BAD_FIELD. -/

namespace Sys2Proof

/-- A source reference within the ranges of section 7.3. -/
def Source.wf : Source → Bool
  | .role k => k < 96
  | .input n => 1 ≤ n && n ≤ 64
  | .programme p => 1 ≤ p && p ≤ 8

/-- An entry whose value length fits the one length byte of R192. -/
def Entry.wf (e : Entry) : Bool := e.val.length < 256

/-- The bytes a run of entries takes on the link: two and the value, for each. -/
def entriesLength : List Entry → Nat
  | [] => 0
  | e :: es => 2 + e.val.length + entriesLength es

/-- A field list that a request body can carry: every entry whole, the body at most 4092 bytes (R190). -/
def bodyWf (b : Body) : Bool :=
  match b with
  | none => false
  | some es => es.all Entry.wf && entriesLength es ≤ 4092

/-- A key of at most 255 bytes, whole in the body. -/
def keyWf : Option Bytes → Bool
  | none => false
  | some k => k.length < 256

/-- A LOOKUP or NEXT_KEY whose table number and key are whole. -/
def KeyReq.wf (r : KeyReq) : Bool := r.table.isSome && keyWf r.key

/-- A WRITE whose key, mode and field list are whole and fit the body. -/
def WriteReq.wf (w : WriteReq) : Bool :=
  match w.key, w.fields with
  | some k, some es =>
    k.length < 256 && w.mode.isSome && es.all Entry.wf && 3 + k.length + entriesLength es ≤ 4092
  | _, _ => false

/-- The tables whose records a WRITE can change (section 11.6). -/
def writableTables : List Nat := [1, 2, 3, 4, 5, 6, 8, 10, 11, 12, 13, 14, 16, 19, 20, 21]

/-- The tables whose records can be retired (section 11.6). -/
def retirableTables : List Nat := [1, 2, 3, 4, 8, 12, 13, 14, 15, 16]

/-- The request codes of section 11.6. -/
def requestCodes : List Nat :=
  [0x00, 0x01, 0x02, 0x03, 0x04, 0x05, 0x06, 0x10, 0x11, 0x12, 0x13, 0x14, 0x15, 0x18, 0x20, 0x21,
   0x28, 0x29, 0x2A, 0x30, 0x31, 0x38, 0x39, 0x3A, 0x3B, 0x3C, 0x3D, 0x3E, 0x3F, 0x40]

/-- The key of an INGREDIENT request names the pending recipe: its second byte is 1 (section 11.6). -/
def namesPending : Option Bytes → Bool
  | some (_ :: r :: _) => r == 1
  | _ => false

def between (lo hi n : Nat) : Bool := lo ≤ n && n ≤ hi

/-- Well-formed commands. -/
def Instr.wf : Instr → Bool
  | .powerOnReset => true
  | .clockSelection _ => true
  | .wclkLoss => true
  | .wclkReturn => true
  | .externalClockSwitch => true
  | .samplePeriod _ => true
  | .clipEnd v => between 1 16 v
  | .markEnd g => between 1 4 g
  | .cycleEnd g => between 1 4 g
  | .chimeComplete g => between 1 4 g
  | .refillGrant => true
  | .refillComplete d => d.length ≤ 384 && d.length % 3 == 0
  | .controlTick _ => true
  | .rampComplete e => e < 128
  | .gateClosed v => between 1 16 v
  | .gateOpened v => between 1 16 v
  | .crossfadeEnd o src => between 1 24 o && src.wf
  | .packTimeout p => p < 96
  | .actionDue r => between 1 8 r
  | .followExpiry r => between 1 8 r
  | .darkGapEnd => true
  | .flashPhase => true
  | .chaseFrameAdvance => true
  | .chaseSilence => true
  | .freewheelExpiry => true
  | .timecodeGo => true
  | .openingEnd c => between 1 255 c
  | .closingEnd c => between 1 255 c
  | .gapEnd c => between 1 255 c
  | .liveMaximum c => between 1 255 c
  | .goLineActivation l => between 1 12 l
  | .holdLineActivation l => between 1 12 l
  | .holdLineRelease l => between 1 12 l
  | .stopLineActivation l => between 1 12 l
  | .resumeLineActivation l => between 1 12 l
  | .evacLineActivation l => between 1 12 l
  | .evacLineRelease l => between 1 12 l
  | .wakeLineActivation l => between 1 12 l
  | .pttPress l => between 1 12 l
  | .pttRelease l => between 1 12 l
  | .readTransaction _ => true
  | .badFrame rx => rx.any (· != 0xFF)
  | .unknownRequest c => !requestCodes.contains c.toNat
  | .nop b => bodyWf b
  | .lookup r => r.wf
  | .nextKey r => r.wf
  | .writeRole w => w.wf
  | .writePerformer w => w.wf
  | .writePack w => w.wf
  | .writeCue w => w.wf
  | .writeFlags w => w.wf
  | .writeCueState w => w.wf
  | .writeClip w => w.wf
  | .writeProgramme w => w.wf
  | .writeFoldback w => w.wf
  | .writeLiveIngredient w => w.wf && !namesPending w.key
  | .writePendingIngredient w => w.wf && namesPending w.key
  | .writeZone w => w.wf
  | .writeGroup w => w.wf
  | .writePattern w => w.wf
  | .writeLine w => w.wf
  | .writeSettings w => w.wf
  | .writeStatus w => w.wf
  | .writeRefusedTable t w =>
    (match t with | some b => !writableTables.contains b.toNat | none => false) && w.wf
  | .retireRole k => keyWf k
  | .retirePerformer k => keyWf k
  | .retirePack k => keyWf k
  | .retireCue k => keyWf k
  | .retireClip k => keyWf k
  | .retireLiveIngredient k => keyWf k && !namesPending k
  | .retirePendingIngredient k => keyWf k && namesPending k
  | .retireZone k => keyWf k
  | .retireGroup k => keyWf k
  | .cancelCall k => keyWf k
  | .retirePattern k => keyWf k
  | .readStatus b => bodyWf b
  | .clearEvents b => bodyWf b
  | .insertCue b => bodyWf b
  | .standby b => bodyWf b
  | .clearStandby b => bodyWf b
  | .go b => bodyWf b
  | .hold b => bodyWf b
  | .unhold b => bodyWf b
  | .timeFrame b => bodyWf b
  | .packReport b => bodyWf b
  | .swap b => bodyWf b
  | .take b => bodyWf b
  | .discard b => bodyWf b
  | .setCheck b => bodyWf b
  | .placeCall b => bodyWf b
  | .endCall b => bodyWf b
  | .stopShow b => bodyWf b
  | .resume b => bodyWf b
  | .endShow b => bodyWf b
  | .evac b => bodyWf b
  | .clearEvac b => bodyWf b
  | .dark b => bodyWf b
  | .wake b => bodyWf b
  | .restartAudio b => bodyWf b
  | .useExternalClock b => bodyWf b
  | .retireRefusedTable t k =>
    (match t with | some b => !retirableTables.contains b.toNat | none => false) && keyWf k

end Sys2Proof
end

