-- ==== Sys2Proof/Decode.lean ====
section
/-! DEFINITION. The command link's frames (R189 to R192, section 11.6): the CRC, the checks on a received
frame, the command a transaction carries, and the frame that carries a command. The opcode table gives
its rows no bits, so `decodeTableWord` reads none. -/

namespace Sys2Proof

/-- The number a run of bytes carries, most significant byte first (R192). -/
def beNat : Bytes → Nat := fun bs => bs.foldl (fun acc b => acc * 256 + b.toNat) 0

/-- `n` in `w` bytes, most significant byte first. -/
def toBE : Nat → Nat → Bytes
  | 0, _ => []
  | w + 1, n => toBE w (n / 256) ++ [BitVec.ofNat 8 n]

/-- One of the eight shifts of the CRC register: left one bit, and the polynomial 07 combined in when
the bit shifted out was 1 (R190). -/
def crcShift (r : Byte) : Byte :=
  if r.msb then (r <<< 1) ^^^ 0x07#8 else r <<< 1

/-- One byte combined into the CRC register, and the register shifted left eight times (R190). -/
def crcByte (r b : Byte) : Byte :=
  crcShift (crcShift (crcShift (crcShift (crcShift (crcShift (crcShift (crcShift (r ^^^ b))))))))

/-- The CRC-8 of a frame: the register starts at FF; no reversal, no inversion (R190). -/
def crc8 (bs : Bytes) : Byte := bs.foldl crcByte 0xFF#8

/-- A field list in bytes: field number, value length, value (R192). -/
def encodeEntries : List Entry → Bytes
  | [] => []
  | e :: es => e.num :: BitVec.ofNat 8 e.val.length :: (e.val ++ encodeEntries es)

/-- The entries of a field list, `none` where one runs past the end; the first argument bounds the
entries that a body of so many bytes can hold. -/
def parseEntriesFuel : Nat → Bytes → Body
  | _, [] => some []
  | 0, _ :: _ => none
  | _ + 1, [_] => none
  | n + 1, num :: len :: rest =>
    if rest.length < len.toNat then none
    else
      match parseEntriesFuel n (rest.drop len.toNat) with
      | none => none
      | some es => some (⟨num, rest.take len.toNat⟩ :: es)

/-- The field list in a body's bytes (R192). -/
def parseEntries (bs : Bytes) : Body := parseEntriesFuel bs.length bs

/-- A generic body's table number, key and the bytes after the key (R191). -/
def splitKey : Bytes → Option Byte × Option Bytes × Bytes
  | [] => (none, none, [])
  | [t] => (some t, none, [])
  | t :: n :: rest =>
    if rest.length < n.toNat then (some t, none, [])
    else (some t, some (rest.take n.toNat), rest.drop n.toNat)

/-- The mode byte and the field list that follow a WRITE's key. -/
def splitWrite (key : Option Bytes) : Bytes → WriteReq
  | [] => ⟨key, none, some []⟩
  | m :: rest => ⟨key, some m, parseEntries rest⟩

/-- The WRITE command of a table number (section 11.6). -/
def writeCommand (t : Option Byte) (w : WriteReq) : Instr :=
  match t.map BitVec.toNat with
  | some 1 => .writeRole w
  | some 2 => .writePerformer w
  | some 3 => .writePack w
  | some 4 => .writeCue w
  | some 5 => .writeFlags w
  | some 6 => .writeCueState w
  | some 8 => .writeClip w
  | some 10 => .writeProgramme w
  | some 11 => .writeFoldback w
  | some 12 => if namesPending w.key then .writePendingIngredient w else .writeLiveIngredient w
  | some 13 => .writeZone w
  | some 14 => .writeGroup w
  | some 16 => .writePattern w
  | some 19 => .writeLine w
  | some 20 => .writeSettings w
  | some 21 => .writeStatus w
  | _ => .writeRefusedTable t w

/-- The RETIRE command of a table number (section 11.6); CANCEL_CALL is RETIRE on the CALL table. -/
def retireCommand (t : Option Byte) (k : Option Bytes) : Instr :=
  match t.map BitVec.toNat with
  | some 1 => .retireRole k
  | some 2 => .retirePerformer k
  | some 3 => .retirePack k
  | some 4 => .retireCue k
  | some 8 => .retireClip k
  | some 12 => if namesPending k then .retirePendingIngredient k else .retireLiveIngredient k
  | some 13 => .retireZone k
  | some 14 => .retireGroup k
  | some 15 => .cancelCall k
  | some 16 => .retirePattern k
  | _ => .retireRefusedTable t k

/-- The command of a request code and body (section 11.6). -/
def requestCommand (code : Byte) (body : Bytes) : Instr :=
  match code.toNat with
  | 0x00 => .nop (parseEntries body)
  | 0x01 => .lookup ⟨(splitKey body).1, (splitKey body).2.1⟩
  | 0x02 => writeCommand (splitKey body).1 (splitWrite (splitKey body).2.1 (splitKey body).2.2)
  | 0x03 => retireCommand (splitKey body).1 (splitKey body).2.1
  | 0x04 => .nextKey ⟨(splitKey body).1, (splitKey body).2.1⟩
  | 0x05 => .readStatus (parseEntries body)
  | 0x06 => .clearEvents (parseEntries body)
  | 0x10 => .insertCue (parseEntries body)
  | 0x11 => .standby (parseEntries body)
  | 0x12 => .clearStandby (parseEntries body)
  | 0x13 => .go (parseEntries body)
  | 0x14 => .hold (parseEntries body)
  | 0x15 => .unhold (parseEntries body)
  | 0x18 => .timeFrame (parseEntries body)
  | 0x20 => .packReport (parseEntries body)
  | 0x21 => .swap (parseEntries body)
  | 0x28 => .take (parseEntries body)
  | 0x29 => .discard (parseEntries body)
  | 0x2A => .setCheck (parseEntries body)
  | 0x30 => .placeCall (parseEntries body)
  | 0x31 => .endCall (parseEntries body)
  | 0x38 => .stopShow (parseEntries body)
  | 0x39 => .resume (parseEntries body)
  | 0x3A => .endShow (parseEntries body)
  | 0x3B => .evac (parseEntries body)
  | 0x3C => .clearEvac (parseEntries body)
  | 0x3D => .dark (parseEntries body)
  | 0x3E => .wake (parseEntries body)
  | 0x3F => .restartAudio (parseEntries body)
  | 0x40 => .useExternalClock (parseEntries body)
  | _ => .unknownRequest code

/-- The body length in a frame's header. -/
def headerLength (rx : Bytes) : Nat := (rx.getD 1 0).toNat * 256 + (rx.getD 2 0).toNat

/-- The four causes of BAD_FRAME (R190): fewer than four bytes, a length above 4092, fewer bytes than the
length requires, a CRC that does not match. -/
def frameBad (rx : Bytes) : Bool :=
  rx.length < 4 || headerLength rx > 4092 || rx.length < headerLength rx + 4 ||
    crc8 (rx.take (headerLength rx + 3)) != rx.getD (headerLength rx + 3) 0

/-- The command carried by the whole bytes received in one transaction (R189, R190). -/
def frameCommand (rx : Bytes) : Instr :=
  if rx.all (· == 0xFF) then .readTransaction rx.length
  else if frameBad rx then .badFrame rx
  else requestCommand (rx.getD 0 0) ((rx.drop 3).take (headerLength rx))

/-- A request frame: code, body length in two bytes, body, CRC (section 11.6). -/
def requestFrame (code : Byte) (body : Bytes) : Bytes :=
  let head := code :: (toBE 2 body.length ++ body)
  head ++ [crc8 head]

/-- A response frame: status, code echoed, body length in two bytes, body, CRC (section 11.6). -/
def responseFrame (status code : Byte) (body : Bytes) : Bytes :=
  let head := status :: code :: (toBE 2 body.length ++ body)
  head ++ [crc8 head]

/-- The body of a generic request without a field list. -/
def keyBody (t : Byte) (k : Bytes) : Bytes := t :: BitVec.ofNat 8 k.length :: k

/-- The body of a WRITE. -/
def writeBody (t : Byte) (w : WriteReq) : Bytes :=
  keyBody t (w.key.getD []) ++ (w.mode.getD 0) :: encodeEntries (w.fields.getD [])

/-- The request code and body of a command of the host, `none` for an event. -/
def Instr.codeBody : Instr → Option (Byte × Bytes)
  | .nop b => some (0x00, encodeEntries (b.getD []))
  | .lookup r => some (0x01, keyBody (r.table.getD 0) (r.key.getD []))
  | .nextKey r => some (0x04, keyBody (r.table.getD 0) (r.key.getD []))
  | .writeRole w => some (0x02, writeBody 1 w)
  | .writePerformer w => some (0x02, writeBody 2 w)
  | .writePack w => some (0x02, writeBody 3 w)
  | .writeCue w => some (0x02, writeBody 4 w)
  | .writeFlags w => some (0x02, writeBody 5 w)
  | .writeCueState w => some (0x02, writeBody 6 w)
  | .writeClip w => some (0x02, writeBody 8 w)
  | .writeProgramme w => some (0x02, writeBody 10 w)
  | .writeFoldback w => some (0x02, writeBody 11 w)
  | .writeLiveIngredient w => some (0x02, writeBody 12 w)
  | .writePendingIngredient w => some (0x02, writeBody 12 w)
  | .writeZone w => some (0x02, writeBody 13 w)
  | .writeGroup w => some (0x02, writeBody 14 w)
  | .writePattern w => some (0x02, writeBody 16 w)
  | .writeLine w => some (0x02, writeBody 19 w)
  | .writeSettings w => some (0x02, writeBody 20 w)
  | .writeStatus w => some (0x02, writeBody 21 w)
  | .writeRefusedTable t w => some (0x02, writeBody (t.getD 0) w)
  | .retireRole k => some (0x03, keyBody 1 (k.getD []))
  | .retirePerformer k => some (0x03, keyBody 2 (k.getD []))
  | .retirePack k => some (0x03, keyBody 3 (k.getD []))
  | .retireCue k => some (0x03, keyBody 4 (k.getD []))
  | .retireClip k => some (0x03, keyBody 8 (k.getD []))
  | .retireLiveIngredient k => some (0x03, keyBody 12 (k.getD []))
  | .retirePendingIngredient k => some (0x03, keyBody 12 (k.getD []))
  | .retireZone k => some (0x03, keyBody 13 (k.getD []))
  | .retireGroup k => some (0x03, keyBody 14 (k.getD []))
  | .cancelCall k => some (0x03, keyBody 15 (k.getD []))
  | .retirePattern k => some (0x03, keyBody 16 (k.getD []))
  | .retireRefusedTable t k => some (0x03, keyBody (t.getD 0) (k.getD []))
  | .readStatus b => some (0x05, encodeEntries (b.getD []))
  | .clearEvents b => some (0x06, encodeEntries (b.getD []))
  | .insertCue b => some (0x10, encodeEntries (b.getD []))
  | .standby b => some (0x11, encodeEntries (b.getD []))
  | .clearStandby b => some (0x12, encodeEntries (b.getD []))
  | .go b => some (0x13, encodeEntries (b.getD []))
  | .hold b => some (0x14, encodeEntries (b.getD []))
  | .unhold b => some (0x15, encodeEntries (b.getD []))
  | .timeFrame b => some (0x18, encodeEntries (b.getD []))
  | .packReport b => some (0x20, encodeEntries (b.getD []))
  | .swap b => some (0x21, encodeEntries (b.getD []))
  | .take b => some (0x28, encodeEntries (b.getD []))
  | .discard b => some (0x29, encodeEntries (b.getD []))
  | .setCheck b => some (0x2A, encodeEntries (b.getD []))
  | .placeCall b => some (0x30, encodeEntries (b.getD []))
  | .endCall b => some (0x31, encodeEntries (b.getD []))
  | .stopShow b => some (0x38, encodeEntries (b.getD []))
  | .resume b => some (0x39, encodeEntries (b.getD []))
  | .endShow b => some (0x3A, encodeEntries (b.getD []))
  | .evac b => some (0x3B, encodeEntries (b.getD []))
  | .clearEvac b => some (0x3C, encodeEntries (b.getD []))
  | .dark b => some (0x3D, encodeEntries (b.getD []))
  | .wake b => some (0x3E, encodeEntries (b.getD []))
  | .restartAudio b => some (0x3F, encodeEntries (b.getD []))
  | .useExternalClock b => some (0x40, encodeEntries (b.getD []))
  | _ => none

/-- The request frame that carries a well-formed command of the host; `none` for an event and for an
ill-formed command. -/
def commandFrame (i : Instr) : Option Bytes :=
  if i.wf then i.codeBody.map fun cb => requestFrame cb.1 cb.2 else none

/-- The command a word of the opcode table spells: the table gives no row any bits, so none. -/
def decodeTableWord (_nbits _w : Nat) : Option Instr := none

end Sys2Proof
end

