-- ==== Sys2Proof/Machine/Operands.lean ====
section
/-! DEFINITION. The operand forms of the command link (R191, R192, R199): values of every kind read from a field list and
written into one, and the field lists of records and request bodies read as typed writes. -/

namespace Sys2Proof.Machine

/-! ### Reading a field list (R192) -/

def badField {α : Type} : Except Status α := .error .badField

/-- A value that must satisfy a condition, or BAD_FIELD. -/
def ensure {α : Type} (ok : Bool) (a : α) : Except Status α := if ok then .ok a else badField

/-- How often a field number stands in a list. -/
def fieldCount (es : List Entry) (n : Nat) : Nat := (es.filter fun e => e.num.toNat == n).length

/-- The checks of R192 on a list as a whole: entries whole, field numbers 1 to `n`, no field but those of `lists`
twice. -/
def checkFields (n : Nat) (lists : List Nat) (b : Body) : Except Status (List Entry) :=
  match b with
  | none => badField
  | some es =>
    ensure (es.all fun e =>
      between 1 n e.num.toNat && (lists.contains e.num.toNat || fieldCount es e.num.toNat == 1)) es

/-- A record's fields checked as a whole: beside R192's checks of every list, no key or read-only number of it, taken without
a look at its value, is longer than 4 bytes (R192; log entry 14). -/
def checkRecord (n : Nat) (lists unread : List Nat) (b : Body) : Except Status (List Entry) :=
  (checkFields n lists b).bind fun es =>
    ensure (es.all fun e => !unread.contains e.num.toNat || e.val.length ≤ 4) es

/-- The value of a field that is no list; `none` where it is omitted. -/
def field (es : List Entry) (n : Nat) : Option Bytes := (es.find? fun e => e.num.toNat == n).map Entry.val

/-- The values of a list field, in order. -/
def listField (es : List Entry) (n : Nat) : List Bytes := (es.filter fun e => e.num.toNat == n).map Entry.val

/-- A number of 1 to 4 bytes. -/
def readNat (v : Bytes) : Except Status Nat := ensure (1 ≤ v.length && v.length ≤ 4) (beNat v)

/-- A number within a range, or BAD_FIELD. -/
def readIn (lo hi : Nat) (v : Bytes) : Except Status Nat := (readNat v).bind fun n => ensure (between lo hi n) n

/-- Yes or no, set or clear: 1 or 0. -/
def readBool (v : Bytes) : Except Status Bool := (readIn 0 1 v).map (· == 1)

/-- A label of at most `most` characters, 32 to 126 each. -/
def readLabel (most : Nat) (v : Bytes) : Except Status Label :=
  ensure (v.length ≤ most && v.all fun b => between 32 126 b.toNat) v

/-- A cue number: major in two bytes, point in one (R192), as its hundredths value. -/
def readCue (v : Bytes) : Except Status Nat :=
  match v with
  | [a, b, p] =>
    ensure (beNat [a, b] ≤ 9999 && p.toNat ≤ 99) (beNat [a, b] * 100 + p.toNat)
  | _ => badField

/-- A source reference: kind byte and key byte (section 7.3). -/
def readSource (v : Bytes) : Except Status Source :=
  match v with
  | [k, n] =>
    match k.toNat with
    | 0 => ensure (Source.role n.toNat).wf (.role n.toNat)
    | 1 => ensure (Source.input n.toNat).wf (.input n.toNat)
    | 2 => ensure (Source.programme n.toNat).wf (.programme n.toNat)
    | _ => badField
  | _ => badField

/-- A call target: kind byte, and a key byte for the kinds that have one (R145; log entry 11). -/
def readTarget (v : Bytes) : Except Status Target :=
  match v with
  | [k, n] =>
    match k.toNat with
    | 0 => ensure (between 1 16 n.toNat) (.zone n.toNat)
    | 1 => ensure (between 1 8 n.toNat) (.group n.toNat)
    | 2 => ensure (between 0 127 n.toNat) (.performer n.toNat)
    | 3 => ensure (between 0 95 n.toNat) (.role n.toNat)
    | _ => badField
  | [k] =>
    match k.toNat with
    | 4 => .ok .all
    | 5 => .ok .stage
    | _ => badField
  | _ => badField

/-- A relay feed: INPUT, PROGRAMME or NONE (section 8.1). -/
def readFeed (v : Bytes) : Except Status Feed :=
  match v with
  | [k, n] =>
    match k.toNat with
    | 0 => ensure (between 1 64 n.toNat) (.input n.toNat)
    | 1 => ensure (between 1 8 n.toNat) (.programme n.toNat)
    | _ => badField
  | [k] => ensure (k.toNat == 2) .none
  | _ => badField

/-- The element of a MASTER action: kind byte and key byte (section 3.3; log entry 10). -/
def readMaster (v : Bytes) : Except Status MasterRef :=
  match v with
  | [k, n] =>
    match k.toNat with
    | 0 => ensure (between 1 24 n.toNat) (.foldback n.toNat)
    | 1 => ensure (between 1 8 n.toNat) (.programme n.toNat)
    | 2 => ensure (between 1 16 n.toNat) (.zone n.toNat)
    | _ => badField
  | _ => badField

/-- A required field. -/
def need {α : Type} (es : List Entry) (n : Nat) (read : Bytes → Except Status α) : Except Status α :=
  match field es n with
  | none => badField
  | some v => read v

/-- A field that may be omitted. -/
def may {α : Type} (es : List Entry) (n : Nat) (read : Bytes → Except Status α) : Except Status (Option α) :=
  match field es n with
  | none => .ok none
  | some v => (read v).map some

/-- An optional field: omitted, or absent with value length 0, or a value. -/
def maybe {α : Type} (es : List Entry) (n : Nat) (read : Bytes → Except Status α) : Except Status (Option α) :=
  match field es n with
  | none => .ok none
  | some [] => .ok none
  | some (b :: v) => (read (b :: v)).map some

/-- A label field, omitted as absent. -/
def labelField (es : List Entry) (n most : Nat) : Except Status Label :=
  (may es n (readLabel most)).map fun l => l.getD []

/-- Each of a list of values read. -/
def readAll {α : Type} (read : Bytes → Except Status α) : List Bytes → Except Status (List α)
  | [] => .ok []
  | v :: vs =>
    match read v, readAll read vs with
    | .error e, _ => .error e
    | .ok _, .error e => .error e
    | .ok a, .ok as => .ok (a :: as)

/-- The field list inside a value. -/
def nested (n : Nat) (lists : List Nat) (v : Bytes) : Except Status (List Entry) :=
  checkFields n lists (parseEntries v)

/-! ### Keys (R191) -/

/-- A key of `w` bytes within a range. -/
def readKey (w lo hi : Nat) (k : Option Bytes) : Except Status Nat :=
  match k with
  | none => badField
  | some v => ensure (v.length == w && between lo hi (beNat v)) (beNat v)

/-- The key of a cue. -/
def readCueKey (k : Option Bytes) : Except Status Nat :=
  match k with
  | none => badField
  | some v => readCue v

/-- The key of length 0 of a table without keys. -/
def readNoKey (k : Option Bytes) : Except Status Unit :=
  match k with
  | some [] => .ok ()
  | _ => badField

/-- An INGREDIENT key: output, recipe (PENDING as true), source. -/
structure RecipeKey where
  output : Nat
  inPending : Bool
  src : Source
deriving DecidableEq, Repr

def readRecipeKey (k : Option Bytes) : Except Status RecipeKey :=
  match k with
  | some [o, r, kind, n] =>
    if between 1 24 o.toNat && r.toNat ≤ 1 then
      (readSource [kind, n]).map fun src => ⟨o.toNat, r.toNat == 1, src⟩
    else badField
  | _ => badField

/-! ### Cues and actions (R47, R48) -/

/-- A trigger: its kind, and the frame of a TIMECODE one; the frame of a MANUAL one is discarded (R47). -/
def readTrigger (v : Bytes) : Except Status Trigger :=
  match v with
  | [] => badField
  | k :: frame =>
    match k.toNat with
    | 0 => ensure (frame.length ≤ 4) .manual
    | 1 => (readIn 0 2159999 frame).map .timecode
    | _ => badField

/-- A branch: a field list of flag, sense and target (R47; log entry 10). One that leaves out a part is refused BAD_FIELD
(log entry 13). -/
def readBranch (v : Bytes) : Except Status Branch := do
  let es ← nested 3 [] v
  let flag ← need es 1 (readIn 0 31)
  let sense ← need es 2 readBool
  let target ← need es 3 readCue
  pure ⟨flag, sense, target⟩

/-- A level code. -/
def readLevel : Bytes → Except Status Nat := readIn 0 1023

/-- A fade, above 600,000 ms taken as 600,000 (R48). -/
def readFade (v : Bytes) : Except Status Nat := (readNat v).map fun n => min n 600000

/-- A delay, above 60,000 ms taken as 60,000 (R48). -/
def readDelay (v : Bytes) : Except Status Nat := (readNat v).map fun n => min n 60000

/-- How many fields an action of a kind has, its delay the last of them (R199). -/
def actionFields : Nat → Nat
  | 0 => 8
  | 1 => 6
  | 2 => 3
  | 3 => 4
  | 4 => 6
  | 5 => 5
  | 6 => 4
  | 7 => 6
  | _ => 0

/-- The fields of an action of a kind (section 3.3, R48). A PLAY's route is a set: a programme output named twice is taken once,
and the set is held in ascending order (log entry 39). -/
def readKind (kind : Nat) (es : List Entry) : Except Status ActionKind :=
  match kind with
  | 0 => do
    let clip ← need es 2 (readIn 0 511)
    let tag ← need es 3 (readIn 0 63)
    let level ← need es 4 readLevel
    let route ← readAll (readIn 1 8) (listField es 5)
    let fadeIn ← need es 6 readFade
    let loops ← maybe es 7 (readIn 0 255)
    ensure (!route.isEmpty)
      (.play clip tag level (route.foldl (fun acc p => insertOnce p acc) []) fadeIn loops)
  | 1 => do
    let tag ← need es 2 (readIn 0 63)
    let level ← need es 3 readLevel
    let fade ← need es 4 readFade
    let stop ← need es 5 readBool
    pure (.voiceFade tag level fade stop)
  | 2 => do
    let tag ← need es 2 (readIn 0 63)
    pure (.voiceRelease tag)
  | 3 => do
    let tag ← need es 2 (readIn 0 63)
    let fade ← need es 3 readFade
    pure (.voiceStop tag fade)
  | 4 => do
    let output ← need es 2 (readIn 1 24)
    let src ← need es 3 readSource
    let level ← need es 4 readLevel
    let fade ← need es 5 readFade
    pure (.ingredient output src level fade)
  | 5 => do
    let el ← need es 2 readMaster
    let level ← need es 3 readLevel
    let fade ← need es 4 readFade
    pure (.master el level fade)
  | 6 => do
    let flag ← need es 2 (readIn 0 31)
    let set ← need es 3 readBool
    pure (.flag flag set)
  | 7 => do
    let target ← need es 2 readTarget
    let clip ← need es 3 (readIn 0 511)
    let pattern ← maybe es 4 (readIn 0 15)
    let priority ← need es 5 (readIn 0 1)
    ensure (target != .stage) (.call target clip pattern priority)
  | _ => badField

/-- An action record: a field list with its kind as field 1 (R192, R199). -/
def readAction (v : Bytes) : Except Status Action := do
  let all ← nested 8 [5] v
  let kind ← need all 1 readNat
  let es ← checkFields (actionFields kind) (if kind = 0 then [5] else []) (some all)
  let what ← readKind kind es
  let delay ← need es (actionFields kind) readDelay
  pure ⟨what, delay⟩

/-- The fields of a cue record but its number: 2 label, 3 trigger, 4 follow, 5 branch, 6 actions (R47). -/
def readCueFields (es : List Entry) : Except Status Cue := do
  let label ← labelField es 2 24
  let trigger ← may es 3 readTrigger
  let follow ← maybe es 4 readNat
  let branch ← maybe es 5 readBranch
  let actions ← readAll readAction (listField es 6)
  ensure (actions.length ≤ 32)
    ⟨label, trigger.getD .manual, follow.map fun w => min w 60000, branch, actions⟩

/-! ### The other records -/

/-- ROLE: label and performer (R24). A label of more than 16 characters, which R24 neither refuses nor cuts, is refused
BAD_FIELD (log entry 15). -/
def readRole (b : Body) : Except Status (Label × Option Nat) := do
  let es ← checkRecord 4 [] [1, 4] b
  let label ← labelField es 2 16
  let performer ← maybe es 3 readNat
  pure (label, performer)

/-- PERFORMER (R25). A label of more than 16 characters, which R25 neither refuses nor cuts, is refused BAD_FIELD (log
entry 15). -/
def readPerformer (b : Body) : Except Status Performer := do
  let es ← checkRecord 7 [] [1, 7] b
  let label ← labelField es 2 16
  let primary ← maybe es 3 readNat
  let spare ← maybe es 4 readNat
  let room ← maybe es 5 (readIn 1 16)
  let swap ← may es 6 readBool
  pure ⟨label, primary, spare, room, swap.getD false⟩

/-- PACK: its channel (R26). -/
def readPack (b : Body) : Except Status Nat := do
  let es ← checkRecord 8 [] [1, 3, 4, 5, 6, 7] b
  need es 2 (readIn 1 64)

/-- CUE (R47). -/
def readCueRecord (b : Body) : Except Status Cue := (checkFields 6 [6] b).bind readCueFields

/-- The value of one show flag a WRITE of FLAGS gives; an omitted one is open (R62; log entry 12). -/
def readFlag (flags : BitVec 32) (es : List Entry) (n : Nat) : Except Status Bool :=
  (may es (n + 1) readBool).map fun v => v.getD (Config.omittedShowFlag n (flags.getLsbD n))

/-- The 32 show flags from a list of their values, flag `n` first. -/
def flagWord : Nat → List Bool → BitVec 32
  | _, [] => 0#32
  | n, b :: bs => (if b then bitAt n else 0#32) ||| flagWord (n + 1) bs

/-- FLAGS: all 32 (R62). -/
def readFlags (flags : BitVec 32) (b : Body) : Except Status (BitVec 32) := do
  let es ← checkFields 32 [] b
  let values ← (List.range 32).mapM (readFlag flags es)
  pure (flagWord 0 values)

/-- CUE_STATE: whether the missed tally is supplied (R83). A tally of no bytes counts as supplied, whatever its value; one of
more than 4 bytes is no number and is refused BAD_FIELD (R192; log entry 14). -/
def readCueState (b : Body) : Except Status Bool :=
  (checkRecord 10 [9] [2, 3, 4, 5, 6, 7] b).map fun es => (field es 7).isSome

/-- A clip's loop: a field list of loop start and loop end (R99; log entry 10). One that leaves out a part is refused BAD_FIELD
(log entry 13). -/
def readLoop (v : Bytes) : Except Status (Nat × Nat) := do
  let es ← nested 2 [] v
  let first ← need es 1 readNat
  let last ← need es 2 readNat
  pure (first, last)

/-- CLIP (R99). -/
def readClip (b : Body) : Except Status Clip := do
  let es ← checkRecord 8 [] [1, 8] b
  let start ← need es 2 (readIn 0 268435455)
  let length ← need es 3 (readIn 1 16777215)
  let loop ← maybe es 4 readLoop
  let loops ← may es 5 (readIn 0 255)
  let trim ← may es 6 readLevel
  let label ← labelField es 7 16
  ensure (loop.all fun l => l.1 < l.2 && l.2 ≤ length) ⟨start, length, loop, loops.getD 0, trim.getD 960, label⟩

/-- PROGRAMME: label, master, and whether the clip count is supplied (R114). R114 names no status for a label of more than 16
characters; it is refused BAD_FIELD (log entry 15). -/
def readProgramme (b : Body) : Except Status (Label × Option Nat × Bool) := do
  let es ← checkRecord 4 [] [1, 4] b
  let label ← labelField es 2 16
  let master ← may es 3 readLevel
  pure (label, master, (field es 4).isSome)

/-- FOLDBACK (R118). -/
def readFoldback (b : Body) : Except Status FoldbackWrite := do
  let es ← checkRecord 12 [] [1, 6, 7, 8, 9, 10, 11, 12] b
  let label ← labelField es 2 16
  let master ← may es 3 readLevel
  let announce ← may es 4 readLevel
  let depth ← may es 5 readNat
  pure ⟨label, master, announce, depth, (field es 12).isSome⟩

/-- INGREDIENT: its level (R122). -/
def readIngredient (b : Body) : Except Status Nat := do
  let es ← checkRecord 7 [] [3, 4, 5, 6, 7] b
  need es 2 readLevel

/-- ZONE (R137). -/
def readZone (b : Body) : Except Status ZoneWrite := do
  let es ← checkRecord 13 [] [1, 5, 12, 13] b
  let label ← labelField es 2 16
  let feed ← may es 3 readFeed
  let level ← may es 4 readLevel
  let depth ← may es 6 readNat
  let duckFade ← may es 7 readNat
  let restoreFade ← may es 8 readNat
  let callLevel ← may es 9 readLevel
  let floor ← may es 10 (readIn 0 3)
  pure ⟨label, feed, level, depth, duckFade, restoreFade, callLevel, floor, (field es 13).isSome⟩

/-- Does a list of numbers repeat none? -/
def distinct (ns : List Nat) : Bool := ns.all fun n => ns.count n == 1

/-- GROUP: label and members, none repeated (R141). -/
def readGroup (b : Body) : Except Status (Label × List Nat) := do
  let es ← checkRecord 3 [3] [1] b
  let label ← labelField es 2 16
  let members ← readAll (readIn 1 16) (listField es 3)
  ensure (!members.isEmpty && distinct members) (label, members)

/-- PATTERN (R162). -/
def readPattern (b : Body) : Except Status Pattern := do
  let es ← checkRecord 11 [] [1, 11] b
  let label ← labelField es 2 16
  let alternate ← need es 3 readBool
  let primary ← need es 4 (readIn 1 8388608)
  let secondary ← may es 5 (readIn 1 8388608)
  let mark ← need es 6 readNat
  let space ← may es 7 readNat
  let cycles ← need es 8 readNat
  let rests ← may es 9 readNat
  let level ← may es 10 readLevel
  ensure (mark ≥ 1 && cycles ≥ 1 && (!alternate || secondary.isSome))
    ⟨label, ⟨alternate, primary, secondary.getD primary, min mark 4095, min (space.getD 0) 4095, min cycles 15,
      min (rests.getD 0) 15, level.getD 960⟩⟩

/-- A line's function, in the order of section 11.4. -/
def readFunction (v : Bytes) : Except Status LineFunction :=
  (readIn 0 9 v).map fun n =>
    [LineFunction.none, .go, .hold, .stop, .resume, .evac, .wake, .ptt, .cueLight, .generalOut].getD n .none

/-- LINE (R195). -/
def readLine (b : Body) : Except Status LineWrite := do
  let es ← checkRecord 9 [] [1, 7, 8, 9] b
  let function ← may es 2 readFunction
  let activeLow ← may es 3 readBool
  let enabled ← may es 4 readBool
  let manual ← may es 5 readBool
  let latch ← may es 6 readBool
  pure ⟨function, activeLow, enabled, manual, latch⟩

/-- A numeric setting: the nearest end of its range when outside it, the stored value when omitted. -/
def setting (es : List Entry) (n lo hi old : Nat) : Except Status Nat :=
  (may es n readNat).map fun v => (v.map fun x => max lo (min x hi)).getD old

/-- An optional setting: kept when omitted, absent with value length 0. -/
def optionalSetting (es : List Entry) (n : Nat) (old : Option Nat) : Except Status (Option Nat) :=
  if (field es n).isNone then .ok old else maybe es n readNat

/-- SETTINGS as a write leaves them, its BAD_FIELD checks made (R198, R142). -/
def readSettings (old : Settings) (b : Body) : Except Status Settings := do
  let es ← checkFields 24 [22] b
  let rfFloor ← setting es 1 0 15 old.rfFloor
  let qualifyCount ← setting es 2 1 32 old.qualifyCount
  let reportTimeout ← setting es 3 100 10000 old.reportTimeout
  let batteryThreshold ← setting es 4 0 1023 old.batteryThreshold
  let protectDepth ← setting es 5 0 480 old.protectDepth
  let protectFade ← setting es 6 0 1000 old.protectFade
  let restoreFade ← setting es 7 0 10000 old.restoreFade
  let window ← setting es 8 0 3 old.window
  let qualifyIndex ← setting es 9 0 5 old.qualifyIndex
  let freewheelLimit ← setting es 10 0 10000 old.freewheelLimit
  let clipDivisor ← setting es 11 1 8 old.clipDivisor
  let editGlide ← setting es 12 0 5000 old.editGlide
  let stageDuckFade ← setting es 13 0 10000 old.stageDuckFade
  let stageRestoreFade ← setting es 14 0 10000 old.stageRestoreFade
  let defaultZone ← setting es 15 1 16 old.defaultZone
  let liveMaximum ← setting es 16 10 600 old.liveMaximum
  let evacClip ← optionalSetting es 17 old.evacClip
  let evacPattern ← optionalSetting es 18 old.evacPattern
  let evacGap ← setting es 19 0 60000 old.evacGap
  let pttSource ← setting es 20 1 64 old.pttSource
  let pttPriority ← setting es 21 0 2 old.pttPriority
  let supplied ← readAll readTarget (listField es 22)
  let divInt ← setting es 23 510 530 old.divInt
  let divFrac ← setting es 24 0 65535 old.divFrac
  let targets := if supplied.isEmpty then old.pttTargets else supplied
  ensure (targets.length ≤ 4 && !(targets.contains .stage && pttPriority < 2))
    { rfFloor, qualifyCount, reportTimeout, batteryThreshold, protectDepth, protectFade, restoreFade, window,
      qualifyIndex, freewheelLimit, clipDivisor, editGlide, stageDuckFade, stageRestoreFade, defaultZone,
      liveMaximum, evacClip, evacPattern, evacGap, pttSource, pttPriority, pttTargets := targets, divInt, divFrac }

/-- STATUS: the interrupt mask, if it is supplied: four bytes (R193). -/
def readMask (b : Body) : Except Status (Option (BitVec 32)) := do
  let es ← checkRecord 13 [] [1, 2, 3, 5, 6, 7, 8, 9, 10, 11, 12, 13] b
  may es 4 fun v => ensure (v.length == 4) (BitVec.ofNat 32 (beNat v))

/-! ### Request bodies -/

/-- A body with one required field. -/
def readOne {α : Type} (read : Bytes → Except Status α) (b : Body) : Except Status α :=
  (checkFields 1 [] b).bind fun es => need es 1 read

/-- A body without fields. -/
def readNone (b : Body) : Except Status Unit := (checkFields 0 [] b).map fun _ => ()

/-- PACK_REPORT: pack, rf, battery (R35). -/
def readReport (b : Body) : Except Status (Nat × Nat × Nat) := do
  let es ← checkFields 3 [] b
  let pack ← need es 1 (readIn 0 95)
  let rf ← need es 2 readNat
  let battery ← need es 3 readNat
  pure (pack, rf, battery)

/-- TAKE: output, and a glide that may be omitted (R127). -/
def readTake (b : Body) : Except Status (Nat × Option Nat) := do
  let es ← checkFields 2 [] b
  let output ← need es 1 (readIn 1 24)
  let glide ← maybe es 2 readNat
  pure (output, glide)

/-- SET_CHECK: output and check state (R133). -/
def readCheck (b : Body) : Except Status (Nat × CheckState) := do
  let es ← checkFields 2 [] b
  let output ← need es 1 (readIn 1 24)
  let check ← need es 2 (readIn 0 2)
  pure (output, [CheckState.normal, .mute, .tone].getD check .normal)

/-- CLEAR_EVENTS: flag mask, and counter mask in one byte (R194). Bits 4 to 7 of that byte name no counter and are ignored, the
model's choice (log entry 44). -/
def readClear (b : Body) : Except Status (BitVec 32 × BitVec 4) := do
  let es ← checkFields 2 [] b
  let flags ← need es 1 readNat
  let counters ← need es 2 fun v => ensure (v.length == 1) (beNat v)
  pure (BitVec.ofNat 32 flags, BitVec.ofNat 4 counters)

/-- The kind of a PLACE_CALL: LIVE with its source, CLIP with its clip (R199). -/
def readCallKind (v : Bytes) : Except Status CallKind :=
  match v with
  | [k, n] => ensure (k.toNat == 0 && between 1 64 n.toNat) (.live n.toNat)
  | [k, hi, lo] => ensure (k.toNat == 1 && beNat [hi, lo] ≤ 511) (.clip (some (beNat [hi, lo])))
  | _ => badField

/-- PLACE_CALL (R144). -/
def readPlaceCall (b : Body) : Except Status CallSpec := do
  let es ← checkFields 4 [1] b
  let targets ← readAll readTarget (listField es 1)
  let priority ← need es 2 (readIn 0 2)
  let kind ← need es 3 readCallKind
  let pattern ← maybe es 4 (readIn 0 15)
  ensure (!targets.isEmpty && targets.length ≤ 4 && !(targets.contains .stage && priority < 2))
    ⟨targets, priority, kind, pattern, false⟩

/-- INSERT_CUE: the anchor as field 1, then a cue record's fields (R52). A body that omits the anchor, which R192's rule for
required fields leaves out and R52 does not speak of, is refused BAD_FIELD (log entry 13). -/
def readInsert (b : Body) : Except Status (Nat × Cue) := do
  let es ← checkFields 6 [6] b
  let anchor ← need es 1 readCue
  let cue ← readCueFields es
  pure (anchor, cue)

/-! ### Writing values (R192; log entries 9 and 10) -/

/-- A number in the fewest bytes; one above 4 bytes is open (log entry 16). -/
def putNat (n : Nat) : Bytes :=
  if n < 256 then toBE 1 n
  else if n < 65536 then toBE 2 n
  else if n < 16777216 then toBE 3 n
  else if n < 4294967296 then toBE 4 n
  else toBE 4 (Config.wideNumber n).toNat

def putBool (b : Bool) : Bytes := [if b then 1 else 0]

def byteOf (n : Nat) : Byte := BitVec.ofNat 8 n

/-- An optional value: length 0 where absent. -/
def putOption {α : Type} (put : α → Bytes) : Option α → Bytes
  | none => []
  | some a => put a

def putCueNumber (h : Nat) : Bytes := toBE 2 (h / 100) ++ [byteOf (h % 100)]

def putSource : Source → Bytes
  | .role k => [0, byteOf k]
  | .input n => [1, byteOf n]
  | .programme p => [2, byteOf p]

def putTarget : Target → Bytes
  | .zone z => [0, byteOf z]
  | .group g => [1, byteOf g]
  | .performer k => [2, byteOf k]
  | .role r => [3, byteOf r]
  | .all => [4]
  | .stage => [5]

def putFeed : Feed → Bytes
  | .input n => [0, byteOf n]
  | .programme p => [1, byteOf p]
  | .none => [2]

def putMaster : MasterRef → Bytes
  | .foldback o => [0, byteOf o]
  | .programme p => [1, byteOf p]
  | .zone z => [2, byteOf z]

def putTrigger : Trigger → Bytes
  | .manual => [0]
  | .timecode f => 1 :: putNat f

/-- A field of a number. -/
def entry (n : Nat) (v : Bytes) : Entry := ⟨byteOf n, v⟩

/-- The fields of one list: one entry an item. -/
def entries {α : Type} (n : Nat) (put : α → Bytes) (as : List α) : List Entry := as.map fun a => entry n (put a)

/-- A value that is itself a field list, its fields numbered from 1. -/
def putFields (vs : List Bytes) : Bytes :=
  encodeEntries (vs.zipIdx.map fun vi => entry (vi.2 + 1) vi.1)

def putBranch (b : Branch) : Bytes := putFields [putNat b.flag, putBool b.sense, putCueNumber b.target]

def putLoop (l : Nat × Nat) : Bytes := putFields [putNat l.1, putNat l.2]

/-- An action as a field list: kind, the row's fields, delay (R199). -/
def putAction (a : Action) : Bytes :=
  match a.kind with
  | .play clip tag level route fadeIn loops =>
    encodeEntries
      ([entry 1 [0], entry 2 (putNat clip), entry 3 (putNat tag), entry 4 (putNat level)] ++ entries 5 putNat route ++
        [entry 6 (putNat fadeIn), entry 7 (putOption putNat loops), entry 8 (putNat a.delay)])
  | .voiceFade tag level fade stop =>
    putFields [[1], putNat tag, putNat level, putNat fade, putBool stop, putNat a.delay]
  | .voiceRelease tag => putFields [[2], putNat tag, putNat a.delay]
  | .voiceStop tag fade => putFields [[3], putNat tag, putNat fade, putNat a.delay]
  | .ingredient o src level fade =>
    putFields [[4], putNat o, putSource src, putNat level, putNat fade, putNat a.delay]
  | .master el level fade => putFields [[5], putMaster el, putNat level, putNat fade, putNat a.delay]
  | .flag n set => putFields [[6], putNat n, putBool set, putNat a.delay]
  | .call target clip pattern priority =>
    putFields [[7], putTarget target, putNat clip, putOption putNat pattern, putNat priority, putNat a.delay]

end Sys2Proof.Machine
end

