-- ==== Sys2Proof/Machine/Lookup.lean ====
section
/-! DEFINITION. Reading the part: each table's record as a field list (LOOKUP), the status record, and the walk of a
table in key order (NEXT_KEY) (R27, R54, R83, R94, R100, R116, R126, R138, R157, R163, R172, R188, R191, R193, R199). -/

namespace Sys2Proof.Machine

/-- The entries of a record whose fields are numbered from 1 in order. R192 numbers the fields of a record, and orders the items of
one list, but fixes no order among the entries of different fields; the model sends them in ascending field number (log entry
46). -/
def fieldsFrom (vs : List Bytes) : List Entry := vs.zipIdx.map fun vi => entry (vi.2 + 1) vi.1

/-- A gain element in a record: its audible code (R8). -/
def putFine (f : Nat) : Bytes := putNat (audible f)

/-! ### The cast table (section 2.1) -/

def State.roleRecord (s : State) (k : Nat) (r : Role) : List Entry :=
  fieldsFrom [putNat k, r.label, putOption putNat r.performer, putNat (s.roleCount k)]

def State.performerRecord (s : State) (k : Nat) (p : Performer) : List Entry :=
  fieldsFrom
    [putNat k, p.label, putOption putNat p.primary, putOption putNat p.spare, putOption putNat p.room,
      putBool p.autoSwap, putNat (s.performerCount k)]

def Health.code : Health → Nat
  | .unknown => 0
  | .qualifying => 1
  | .good => 2
  | .lost => 3

/-- A pack's fields. The battery stays in the minutes it was reported in (section 2.1; log entry 40). -/
def State.packRecord (s : State) (k : Nat) (p : Pack) : List Entry :=
  fieldsFrom
    [putNat k, putNat p.channel, putNat p.health.code, putOption putNat p.rf, putOption putNat p.battery,
      putBool p.warning, putNat p.progress,
      putOption (fun (n : Nat × Bool) => putFields [putNat n.1, putBool n.2]) (s.namedBy k)]

/-! ### The cue engine (sections 3.2, 4.6) -/

def cueRecord (n : Nat) (c : Cue) : List Entry :=
  fieldsFrom [putCueNumber n, c.label, putTrigger c.trigger, putOption putNat c.follow, putOption putBranch c.branch] ++
    entries 6 putAction c.actions

def State.flagsRecord (s : State) : List Entry :=
  fieldsFrom ((List.range 32).map fun n => putBool (s.flags.getLsbD n))

def Latch.put (l : Latch) : Bytes := putFields [putCueNumber l.number, l.cue.label, putTrigger l.cue.trigger]

def Run.putFollow (r : Run) : Bytes :=
  match r.follow with
  | .absent => [0]
  | .waiting w => 1 :: putNat (w - r.elapsed)
  | .expired => [2]

/-- A run's entry: number, cue, elapsed, actions not yet executed, follow (R83). -/
def putRun (kr : Nat × Run) : Bytes :=
  putFields
    [putNat kr.1, putCueNumber kr.2.number, putNat kr.2.elapsed,
      putNat (kr.2.actions.filter fun a => !a.executed).length, kr.2.putFollow]

def Lamp.code : Lamp → Nat
  | .off => 0
  | .on => 1
  | .flash => 2

/-- CUE_STATE (R83). An EMPTY latch is sent as a value of no bytes, which R83 and R192 leave open (log entry 10). -/
def State.cueStateRecord (s : State) : List Entry :=
  fieldsFrom
    [putOption Latch.put s.cue.latch, putBool ((s.cue.latch.map Latch.stale).getD false),
      putBool ((s.cue.latch.map Latch.armed).getD false), putBool s.cue.holdRequest, putBool s.holdPresent,
      putBool s.cue.pendingGo, putNat s.cue.missed, putOption putCueNumber s.cue.lastFired] ++
    entries 9 putRun (sortBy (fun (a b : Nat × Run) => a.2.order < b.2.order) s.cue.runs) ++
    [entry 10 (putFields [putNat s.cue.lamp.code, putNat s.cue.darkGap])]

/-! ### The timecode chase (R94) -/

def ChaseState.code : ChaseState → Nat
  | .absent => 0
  | .acquiring => 1
  | .locked => 2
  | .freewheel => 3

def State.chaseRecord (s : State) : List Entry :=
  fieldsFrom
    [putNat s.chase.state.code, putNat s.chase.frame, putNat s.chase.tick, putNat s.chase.count,
      putNat s.chase.silence, putNat s.chase.freewheel, putNat (qualifyK s.settings.qualifyIndex)]

/-! ### The voice unit (R100, R114, R116) -/

def State.clipRecord (s : State) (k : Nat) (c : Clip) : List Entry :=
  fieldsFrom
    [putNat k, putNat c.start, putNat c.length, putOption putLoop c.loop, putNat c.loops, putNat c.trim, c.label,
      putNat (s.clipCount k)]

def VoiceState.code : VoiceState → Nat
  | .idle => 0
  | .playing => 1
  | .paused => 2
  | .closing => 3

def VoiceOwner.code : VoiceOwner → Nat
  | .none => 0
  | .cue => 1
  | .call _ => 2

def VoiceOwner.callId : VoiceOwner → Option Nat
  | .none => Option.none
  | .cue => Option.none
  | .call id => some id

def Loops.put : Loops → Bytes
  | .none => [0]
  | .endless => [1]
  | .count n => 2 :: putNat n
  | .done => [3]

def GateState.code : GateState → Nat
  | .opened => 0
  | .closed => 1
  | .opening => 2
  | .closing => 3

def voiceRecord (k : Nat) (x : Voice) : List Entry :=
  fieldsFrom
    [putNat k, putNat x.state.code, putNat x.owner.code, putOption putNat x.owner.callId, putOption putNat x.tag,
      putOption putNat x.clip, putNat x.position, x.loops.put, putFine x.level, putNat x.gate.state.code] ++
    entries 11 putNat x.route ++
    [entry 12 (putNat x.startOrder), entry 13 (putNat x.buffer.length), entry 14 (putBool x.primed),
      entry 15 (putBool x.pending.isSome), entry 16 (putOption putNat (x.pending.map PendingPlay.clip))]

def programmeRecord (k : Nat) (p : Programme) : List Entry :=
  fieldsFrom [putNat k, p.label, putFine p.master, putNat p.clips]

/-! ### Foldback (R118, R126) -/

def CheckState.code : CheckState → Nat
  | .normal => 0
  | .mute => 1
  | .tone => 2

def State.foldbackRecord (s : State) (k : Nat) (b : Foldback) : List Entry :=
  fieldsFrom
    [putNat k, b.label, putFine b.master, putNat b.announce, putNat b.duckDepth, putFine b.duck,
      putNat b.check.code, putNat b.live.length, putNat (b.live.filter fun i => s.departing k i.src).length,
      putBool b.pending.isSome, putOption (fun (p : List PendingIngredient) => putNat p.length) b.pending,
      putNat b.clips]

def RecipeKey.put (k : RecipeKey) : Bytes := [byteOf k.output, if k.inPending then 1 else 0] ++ putSource k.src

/-- Is a source a role? -/
def namesRole : Source → Bool
  | .role _ => true
  | _ => false

def State.liveRecord (s : State) (k : RecipeKey) (i : Ingredient) : List Entry :=
  let role := namesRole k.src
  fieldsFrom
    [k.put, putFine i.level, putBool (s.departing k.output k.src),
      if role then putOption putNat i.channel else [], if role then putFine i.rebind.fine else [],
      if role then putOption putNat (i.outgoing.map Outgoing.channel) else [],
      if role then putOption (fun (o : Outgoing) => putFine o.term.fine) i.outgoing else []]

def pendingRecord (k : RecipeKey) (i : PendingIngredient) : List Entry :=
  fieldsFrom [k.put, putNat i.level, [], [], [], [], []]

def State.ingredientRecord (s : State) (k : RecipeKey) : Except Status (List Entry) :=
  if k.inPending then
    match ((s.output k.output).pending.getD []).find? (·.src == k.src) with
    | none => .error .noSuch
    | some i => .ok (pendingRecord k i)
  else
    match ingredientOf (s.output k.output).live k.src with
    | none => .error .noSuch
    | some i => .ok (s.liveRecord k i)

/-! ### Relay and calls (R138, R141, R157) -/

def Occupant.put (o : Occupant) : Bytes := putFields [putNat o.id, putNat o.priority]

def State.zoneRecord (s : State) (k : Nat) (z : Zone) : List Entry :=
  fieldsFrom
    [putNat k, z.label, putFeed z.feed, putFine z.level, putFine z.duck, putNat z.duckDepth, putNat z.duckFade,
      putNat z.restoreFade, putNat z.callLevel, putNat z.floor, putOption Occupant.put z.occupant,
      putNat (s.zoneCount k), putNat z.clips]

def groupRecord (k : Nat) (g : Group) : List Entry :=
  fieldsFrom [putNat k, g.label] ++ entries 3 putNat g.members

def CallKind.put : CallKind → Bytes
  | .live n => [0, byteOf n]
  | .clip none => [1]
  | .clip (some k) => 1 :: toBE 2 k

def ZoneStatus.code : ZoneStatus → Nat
  | .waiting => 0
  | .active => 1
  | .done => 2
  | .missed => 3
  | .skipped => 4
  | .preempted => 5

def Phase.code : Phase → Nat
  | .idle => 0
  | .opening => 1
  | .chime => 2
  | .message => 3
  | .closing => 4
  | .gap => 5

def VoiceHold.put : VoiceHold → Bytes
  | .none => []
  | .held v => [0, byteOf v]
  | .waiting => [1]

def callRecord (k : Nat) (c : Call) : List Entry :=
  fieldsFrom [putNat k, putNat c.priority, c.kind.put, putOption putNat c.pattern, putNat c.order] ++
    entries 6 (fun (e : Nat × ZoneStatus) => putFields [putNat e.1, putNat e.2.code]) c.entries ++
    [entry 7 (putNat c.phase.code), entry 8 (putNat c.timer), entry 9 c.voice.put,
      entry 10 (putOption putNat c.gen), entry 11 (if c.isLive then putNat c.liveTime else []),
      entry 12 (putFields [putBool c.ptt, putBool c.evac, putBool c.cut])]

/-! ### Chimes (R163, R172) -/

def State.patternRecord (s : State) (k : Nat) (p : Pattern) : List Entry :=
  let t := p.tune
  fieldsFrom
    [putNat k, p.label, putBool t.alternate, putNat t.primary, putNat t.secondary, putNat t.mark, putNat t.space,
      putNat t.cycles, putNat t.rests, putNat t.level, putNat (s.patternCount k)]

def Tune.put (t : Tune) : Bytes :=
  putFields
    [putBool t.alternate, putNat t.primary, putNat t.secondary, putNat t.mark, putNat t.space, putNat t.cycles,
      putNat t.rests, putNat t.level]

def GenUse.code : GenUse → Nat
  | .free => 0
  | .chime => 1
  | .lineCheck => 2

def Section.code : Section → Nat
  | .mark => 0
  | .space => 1
  | .rest => 2

/-- A generator's record: what its use has, the rest absent; the phase always. R172's list of what LOOKUP returns does not
name the output, table 9.2's field 13, and a negative output has no form under R192: it is left out (log entry 31). -/
def generatorRecord (k : Nat) (g : Generator) : List Entry :=
  match g.use with
  | .free => fieldsFrom [putNat k, putNat g.use.code, [], [], [], [], putNat g.phase, [], [], [], [], []]
  | .lineCheck =>
    fieldsFrom [putNat k, putNat g.use.code, [], [], [], [], putNat g.phase, putNat g.step, [], [], [], []]
  | .chime =>
    fieldsFrom
      [putNat k, putNat g.use.code, putOption putNat g.call, putOption putNat g.pattern,
        putOption Tune.put g.shadow, putNat g.part.code, putNat g.phase, putNat g.step, putBool g.secondary,
        putNat g.count, putNat g.cyclesDone, putNat g.restsDone]

/-! ### House, lines, settings (R188, R195, R198) -/

def HouseState.code : HouseState → Nat
  | .preset => 0
  | .running => 1
  | .stopped => 2
  | .evac => 3
  | .dark => 4

def ClockSource.code : ClockSource → Nat
  | .external => 0
  | .internal => 1

/-- The fields of HOUSE (R188, R199). The EVAC line level has no list of its values: the model writes 1 for active and 0 for
inactive (log entry 10). -/
def State.houseRecord (s : State) : List Entry :=
  fieldsFrom
    [putNat s.house.state.code, putBool s.house.held, putNat s.house.heldTime, putBool (s.lineLevel .evac),
      putNat s.clock.source.code, putBool s.clock.wclk, putNat s.clock.divInt, putNat s.clock.divFrac]

def LineFunction.code : LineFunction → Nat
  | .none => 0
  | .go => 1
  | .hold => 2
  | .stop => 3
  | .resume => 4
  | .evac => 5
  | .wake => 6
  | .ptt => 7
  | .cueLight => 8
  | .generalOut => 9

/-- The level at a line's pin: the one the part drives there, or the one last sampled where it drives none (R195, R197;
log entry 18). -/
def State.pinLevel (s : State) (k : Nat) (l : Line) : Bool := (s.drivenPin k).getD l.pin

/-- A line's record; a pin reads high as 0 and low as 1 and a state ACTIVE as 0 and INACTIVE as 1, each by its place in
the list of section 11.4. -/
def State.lineRecord (s : State) (k : Nat) (l : Line) : List Entry :=
  fieldsFrom
    [putNat k, putNat l.function.code, putBool l.activeLow, putBool l.enabled, putBool l.manual, putBool l.latch,
      putBool !(s.pinLevel k l), putBool !l.active, putNat l.count]

/-- The settings; the live maximum, which WRITE takes in seconds (section 11.5), is given in milliseconds as R192 gives every
time in LOOKUP; the battery warning threshold stays in minutes (log entry 40). -/
def settingsRecord (t : Settings) : List Entry :=
  fieldsFrom
    [putNat t.rfFloor, putNat t.qualifyCount, putNat t.reportTimeout, putNat t.batteryThreshold,
      putNat t.protectDepth, putNat t.protectFade, putNat t.restoreFade, putNat t.window, putNat t.qualifyIndex,
      putNat t.freewheelLimit, putNat t.clipDivisor, putNat t.editGlide, putNat t.stageDuckFade,
      putNat t.stageRestoreFade, putNat t.defaultZone, putNat (t.liveMaximum * 1000), putOption putNat t.evacClip,
      putOption putNat t.evacPattern, putNat t.evacGap, putNat t.pttSource, putNat t.pttPriority] ++
    entries 22 putTarget t.pttTargets ++ [entry 23 (putNat t.divInt), entry 24 (putNat t.divFrac)]

/-- The status record in its byte layout (R193, section 11.6). -/
def State.statusRecord (s : State) : Bytes :=
  [byteOf s.house.state.code, byteOf (s.clock.source.code + if s.clock.wclk then 2 else 0)] ++
    toBE 4 s.status.events.toNat ++ toBE 4 s.status.mask.toNat ++ toBE 2 s.status.clipped ++
    toBE 2 s.status.rampOverflow ++ toBE 2 s.status.actionSkipped ++ toBE 2 s.status.underrun ++
    [byteOf s.ramps.length] ++ toBE 2 s.cues.length ++ toBE 2 s.actionsFree ++ [byteOf s.voicesBusy] ++
    [byteOf s.relay.calls.length]

/-! ### LOOKUP -/

/-- The record of a keyed table: the key read, the record found, or NO_SUCH. -/
def found {α : Type} (t : Table α) (key : Except Status Nat) (put : Nat → α → List Entry) : Except Status Bytes :=
  key.bind fun k =>
    match t.get k with
    | none => .error .noSuch
    | some a => .ok (encodeEntries (put k a))

/-- The record of a table without keys. -/
def alone (key : Option Bytes) (record : Bytes) : Except Status Bytes := (readNoKey key).map fun _ => record

/-- LOOKUP (R191). -/
def State.lookup (s : State) (r : KeyReq) : Except Status Bytes :=
  match r.table.map BitVec.toNat with
  | some 1 => found s.roles (readKey 1 0 95 r.key) s.roleRecord
  | some 2 => found s.performers (readKey 1 0 127 r.key) s.performerRecord
  | some 3 => found s.packs (readKey 1 0 95 r.key) s.packRecord
  | some 4 => found s.cues (readCueKey r.key) cueRecord
  | some 5 => alone r.key (encodeEntries s.flagsRecord)
  | some 6 => alone r.key (encodeEntries s.cueStateRecord)
  | some 7 => alone r.key (encodeEntries s.chaseRecord)
  | some 8 => found s.clips (readKey 2 0 511 r.key) s.clipRecord
  | some 9 => found s.voices (readKey 1 1 16 r.key) voiceRecord
  | some 10 => found s.programmes (readKey 1 1 8 r.key) programmeRecord
  | some 11 => found s.outputs (readKey 1 1 24 r.key) s.foldbackRecord
  | some 12 => ((readRecipeKey r.key).bind s.ingredientRecord).map encodeEntries
  | some 13 => found s.zones (readKey 1 1 16 r.key) s.zoneRecord
  | some 14 => found s.groups (readKey 1 1 8 r.key) groupRecord
  | some 15 => found s.relay.calls (readKey 1 1 255 r.key) callRecord
  | some 16 => found s.patterns (readKey 1 0 15 r.key) s.patternRecord
  | some 17 => found s.gens (readKey 1 1 4 r.key) generatorRecord
  | some 18 => alone r.key (encodeEntries s.houseRecord)
  | some 19 => found s.lines (readKey 1 1 12 r.key) s.lineRecord
  | some 20 => alone r.key (encodeEntries (settingsRecord s.settings))
  | some 21 => alone r.key s.statusRecord
  | _ => badField

/-! ### NEXT_KEY -/

/-- The next present key, or the lowest for a key of length 0 (R191). -/
def walk {α : Type} (t : Table α) (key : Option Bytes) (read : Option Bytes → Except Status Nat) (put : Nat → Bytes) :
    Except Status Bytes :=
  let next : Except Status (Option (Nat × α)) :=
    match key with
    | some [] => .ok t.head?
    | _ => (read key).map t.above
  next.bind fun r =>
    match r with
    | none => .error .noSuch
    | some (k, _) => .ok (put k)

/-- The source after the named one in a recipe, or the first (R126). -/
def nextSource (sources : List Source) : Option Source → Option Source
  | none => sources.head?
  | some src => ((sources.dropWhile (· != src)).drop 1).head?

/-- The sources of a recipe, in join order; none for a pending recipe that is absent. -/
def State.sources (s : State) (o : Nat) (inPending : Bool) : List Source :=
  if inPending then ((s.output o).pending.getD []).map PendingIngredient.src
  else (s.output o).live.map Ingredient.src

/-- The first ingredient of a recipe, by its key. -/
def State.firstOf (s : State) (o : Nat) (inPending : Bool) : Option RecipeKey :=
  (nextSource (s.sources o inPending) none).map fun src => ⟨o, inPending, src⟩

/-- The lowest ingredient present: of the lowest output, its live recipe before its pending one, the first in join order
(R191; log entry 34). -/
def State.lowestIngredient (s : State) : Option RecipeKey :=
  s.outputs.keys.findSome? fun o => (s.firstOf o false).orElse fun _ => s.firstOf o true

/-- NEXT_KEY of an ingredient: a key of length 0 names none, and one of two bytes the start of its recipe; the walk goes on
within the recipe (R126, R191). -/
def State.walkRecipe (s : State) (key : Option Bytes) : Except Status Bytes :=
  let next : Except Status (Option RecipeKey) :=
    match key with
    | some [] => .ok s.lowestIngredient
    | some [o, r] =>
      ensure (between 1 24 o.toNat && r.toNat ≤ 1) (s.firstOf o.toNat (r.toNat == 1))
    | _ => (readRecipeKey key).map fun k =>
      (nextSource (s.sources k.output k.inPending) (some k.src)).map fun src => ⟨k.output, k.inPending, src⟩
  next.bind fun r =>
    match r with
    | none => .error .noSuch
    | some k => .ok k.put

/-- NEXT_KEY (R191); the tables without keys and GENERATOR refuse it. -/
def State.nextKey (s : State) (r : KeyReq) : Except Status Bytes :=
  let one (n : Nat) : Bytes := [byteOf n]
  match r.table.map BitVec.toNat with
  | some 1 => walk s.roles r.key (readKey 1 0 95) one
  | some 2 => walk s.performers r.key (readKey 1 0 127) one
  | some 3 => walk s.packs r.key (readKey 1 0 95) one
  | some 4 => walk s.cues r.key readCueKey putCueNumber
  | some 8 => walk s.clips r.key (readKey 2 0 511) (toBE 2)
  | some 9 => walk s.voices r.key (readKey 1 1 16) one
  | some 10 => walk s.programmes r.key (readKey 1 1 8) one
  | some 11 => walk s.outputs r.key (readKey 1 1 24) one
  | some 12 => s.walkRecipe r.key
  | some 13 => walk s.zones r.key (readKey 1 1 16) one
  | some 14 => walk s.groups r.key (readKey 1 1 8) one
  | some 15 => walk s.relay.calls r.key (readKey 1 1 255) one
  | some 16 => walk s.patterns r.key (readKey 1 0 15) one
  | some 19 => walk s.lines r.key (readKey 1 1 12) one
  | _ => badField

end Sys2Proof.Machine
end

