-- ==== Sys2Proof/Machine/Requests.lean ====
section
/-! DEFINITION. Requests of the host: how one is taken and answered (R189 to R191), and what the ones that are more than one
shared operation do. -/

namespace Sys2Proof.Machine

/-- What a request comes to: the state it leaves and its response body, or the status it is refused with. -/
abbrev Answer := Except Status (State × Bytes)

/-- The outcome of every command. -/
abbrev Result := Host.Outcome State Fault Refusal

/-- The response buffer replaced by the response frame of an answer; a refused request changes nothing else (R190). -/
def State.respond (code : Byte) (a : Answer) (s : State) : State :=
  match a with
  | .ok (t, body) => { t with response := responseFrame Status.ok.code code body }
  | .error e => { s with response := responseFrame e.code code [] }

/-- A request taken whole: what has come due first, then the request, then its response (R189). -/
def State.request (code : Byte) (f : State → Answer) (s : State) : State := s.settle.respond code (f s.settle)

/-- A request answered with an empty body. -/
def plain (r : Except Status State) : Answer := r.map fun t => (t, [])

/-! ### WRITE and RETIRE (R191) -/

/-- The mode of a WRITE: CREATE as true. -/
def readMode (m : Option Byte) : Except Status Bool :=
  match m with
  | none => badField
  | some b => ensure (b.toNat ≤ 1) (b.toNat == 1)

/-- A WRITE: key, mode, EXISTS for a CREATE of a present record, then the record's own checks. -/
def answerWrite {κ α : Type} (w : WriteReq) (key : Except Status κ) (present : κ → Bool)
    (read : Body → Except Status α) (act : κ → α → Except Status State) : Answer :=
  key.bind fun k =>
    (readMode w.mode).bind fun create =>
      if create && present k then .error .exists
      else (read w.fields).bind fun a => plain (act k a)

/-- A WRITE of a record that exists at all times. -/
def answerWriteAlways {κ α : Type} (w : WriteReq) (key : Except Status κ) (read : Body → Except Status α)
    (act : κ → α → State) : Answer :=
  answerWrite w key (fun _ => true) read fun k a => .ok (act k a)

/-- A RETIRE by key. -/
def answerRetire {κ : Type} (key : Except Status κ) (act : κ → Except Status State) : Answer :=
  key.bind fun k => plain (act k)

/-- A live ingredient's key, and a pending one's. -/
def readLiveKey (k : Option Bytes) : Except Status RecipeKey :=
  (readRecipeKey k).bind fun r => ensure (!r.inPending) r

def readPendingKey (k : Option Bytes) : Except Status RecipeKey :=
  (readRecipeKey k).bind fun r => ensure r.inPending r

/-- WRITE of a clip: IN_USE while a voice holds it (R99). -/
def State.putClip (k : Nat) (c : Clip) (s : State) : Except Status State :=
  if s.voices.any fun kv => kv.2.holds k then .error .inUse else .ok { s with clips := s.clips.put k c }

/-- RETIRE of a clip (R100). -/
def State.dropClip (k : Nat) (s : State) : Except Status State :=
  if !s.clips.has k then .error .noSuch
  else if s.clipCount k ≠ 0 then .error .inUse
  else .ok { s with clips := s.clips.erase k }

/-- WRITE of CUE_STATE: a missed tally supplied sets the tally to 0 (R83). -/
def State.clearMissed (supplied : Bool) (s : State) : State :=
  if supplied then { s with cue := { s.cue with missed := 0 } } else s

/-- WRITE of STATUS: the mask, its unassigned bits kept at 0 (R193). -/
def State.setMask (m : Option (BitVec 32)) (s : State) : State :=
  match m with
  | none => s
  | some x => { s with status := { s.status with mask := x &&& assignedFlags } }

/-- WRITE of SETTINGS, after its BAD_FIELD checks: NO_SUCH, then every setting replaced (R198). -/
def State.putSettings (t : Settings) (s : State) : Except Status State :=
  if t.evacClip.any (fun k => !s.clips.has k) || t.evacPattern.any (fun k => !s.patterns.has k) then .error .noSuch
  else .ok { s with settings := t }

/-! ### Show operations -/

/-- CLEAR_EVENTS: the flags and counters named cleared; the flags as they stood are the response (R194). -/
def State.clearEvents (flags : BitVec 32) (counters : BitVec 4) (s : State) : State :=
  { s with status := { s.status with
      events := s.status.events &&& ~~~flags,
      clipped := if counters.getLsbD 0 then 0 else s.status.clipped,
      rampOverflow := if counters.getLsbD 1 then 0 else s.status.rampOverflow,
      actionSkipped := if counters.getLsbD 2 then 0 else s.status.actionSkipped,
      underrun := if counters.getLsbD 3 then 0 else s.status.underrun } }

/-- CLEAR_STANDBY (R67). -/
def State.clearStandby (s : State) : Except Status State :=
  if s.inDark then .error .wrongState else .ok ({ s with cue := { s.cue with latch := none } }).relamp

/-- HOLD and UNHOLD (R71, R73). -/
def State.requestHold (inForce : Bool) (s : State) : Except Status State :=
  if s.inDark then .error .wrongState else .ok (s.setHold s.cue.holdLine inForce).relamp

/-- The outcome byte of a GO, and the number of the cue fired (section 11.6). -/
def GoOutcome.put : GoOutcome → Bytes
  | .fired n => 0 :: putCueNumber n
  | .pending => [1]
  | .missed => [2]
  | .endOfList => [3]
  | .refused => []

/-- A GO request (R70). -/
def State.requestGo (s : State) : Answer :=
  if s.house.state == .preset || s.house.state == .running then .ok (s.takeGo.1.relamp, s.takeGo.2.put)
  else .error .wrongState

/-- PACK_REPORT, after its BAD_FIELD checks (R35). -/
def State.report (pack rf battery : Nat) (s : State) : Except Status State :=
  if !s.packs.has pack then .error .noSuch
  else if s.inDark then .error .wrongState
  else .ok (s.takeReport pack rf battery)

/-- A call that END_CALL or CANCEL_CALL may act on: present, and not the evacuation call (R154, R156). -/
def State.endable (s : State) (id : Nat) : Except Status Unit :=
  match s.call id with
  | none => .error .noSuch
  | some c => if c.evac then .error .wrongState else .ok ()

def State.endCall (id : Nat) (s : State) : Except Status State := (s.endable id).map fun _ => s.endCallNow id

def State.cancelCall (id : Nat) (s : State) : Except Status State := (s.endable id).map fun _ => s.cancelNow id

/-- A request without fields that is one cause or operation. -/
def answerNone (b : Body) (act : Except Status State) : Answer := (readNone b).bind fun _ => plain act

/-- A request with one required field. -/
def answerOne {α : Type} (b : Body) (read : Bytes → Except Status α) (act : α → Except Status State) : Answer :=
  (readOne read b).bind fun a => plain (act a)

end Sys2Proof.Machine
end

