-- ==== Sys2Proof/Machine/Link.lean ====
section
/-! DEFINITION. The meanings of the link's own commands and of the requests that read the part (chapter 11). -/

namespace Sys2Proof.Machine

/-- READ_TRANSACTION: no request is taken and the buffer is left as it was (R189). -/
def execReadTransaction (_count : Nat) (s : State) : Result := .next s

/-- BAD_FRAME: refused, its response carrying the request code byte as received (R190). -/
def execBadFrame (rx : Bytes) (s : State) : Result :=
  .next (s.request (rx.getD 0 0) fun _ => .error .badFrame)

/-- UNKNOWN_REQUEST (R190). -/
def execUnknownRequest (code : Byte) (s : State) : Result :=
  .next (s.request code fun _ => .error .unknownRequest)

/-- NOP: OK with an empty body (section 11.6). -/
def execNop (b : Body) (s : State) : Result := .next (s.request 0x00 fun t => answerNone b (.ok t))

/-- LOOKUP (R191). -/
def execLookup (r : KeyReq) (s : State) : Result :=
  .next (s.request 0x01 fun t => (t.lookup r).map fun record => (t, record))

/-- NEXT_KEY (R191). -/
def execNextKey (r : KeyReq) (s : State) : Result :=
  .next (s.request 0x04 fun t => (t.nextKey r).map fun key => (t, key))

/-- READ_STATUS (R193). -/
def execReadStatus (b : Body) (s : State) : Result :=
  .next (s.request 0x05 fun t => (readNone b).map fun _ => (t, t.statusRecord))

/-- CLEAR_EVENTS (R194). -/
def execClearEvents (b : Body) (s : State) : Result :=
  .next (s.request 0x06 fun t =>
    (readClear b).map fun m => (t.clearEvents m.1 m.2, toBE 4 t.status.events.toNat))

end Sys2Proof.Machine
end

