-- ==== Sys2Proof/Machine/Records.lean ====
section
/-! DEFINITION. The meanings of WRITE and RETIRE, table by table (R191 and each table's own rules). -/

namespace Sys2Proof.Machine

/-- WRITE of ROLE (R24). -/
def execWriteRole (w : WriteReq) (s : State) : Result :=
  .next (s.request 0x02 fun t =>
    answerWrite w (readKey 1 0 95 w.key) t.roles.has readRole fun k r => t.putRole k r.1 r.2)

/-- WRITE of PERFORMER (R25). -/
def execWritePerformer (w : WriteReq) (s : State) : Result :=
  .next (s.request 0x02 fun t =>
    answerWrite w (readKey 1 0 127 w.key) t.performers.has readPerformer fun k p => t.putPerformer k p)

/-- WRITE of PACK (R26). -/
def execWritePack (w : WriteReq) (s : State) : Result :=
  .next (s.request 0x02 fun t =>
    answerWrite w (readKey 1 0 95 w.key) t.packs.has readPack fun k ch => t.putPack k ch)

/-- WRITE of CUE (R50). -/
def execWriteCue (w : WriteReq) (s : State) : Result :=
  .next (s.request 0x02 fun t =>
    answerWrite w (readCueKey w.key) t.cues.has readCueRecord fun n c => t.putCue n c)

/-- WRITE of FLAGS (R62). -/
def execWriteFlags (w : WriteReq) (s : State) : Result :=
  .next (s.request 0x02 fun t =>
    answerWriteAlways w (readNoKey w.key) (readFlags t.flags) fun _ flags => { t with flags := flags })

/-- WRITE of CUE_STATE (R83). -/
def execWriteCueState (w : WriteReq) (s : State) : Result :=
  .next (s.request 0x02 fun t =>
    answerWriteAlways w (readNoKey w.key) readCueState fun _ supplied => t.clearMissed supplied)

/-- WRITE of CLIP (R99). -/
def execWriteClip (w : WriteReq) (s : State) : Result :=
  .next (s.request 0x02 fun t =>
    answerWrite w (readKey 2 0 511 w.key) t.clips.has readClip fun k c => t.putClip k c)

/-- WRITE of PROGRAMME (R114). -/
def execWriteProgramme (w : WriteReq) (s : State) : Result :=
  .next (s.request 0x02 fun t =>
    answerWriteAlways w (readKey 1 1 8 w.key) readProgramme fun p x => t.writeProgramme p x.1 x.2.1 x.2.2)

/-- WRITE of FOLDBACK (R118). -/
def execWriteFoldback (w : WriteReq) (s : State) : Result :=
  .next (s.request 0x02 fun t =>
    answerWriteAlways w (readKey 1 1 24 w.key) readFoldback fun o x => t.writeOutput o x)

/-- WRITE of a live INGREDIENT (R122). -/
def execWriteLiveIngredient (w : WriteReq) (s : State) : Result :=
  .next (s.request 0x02 fun t =>
    answerWrite w (readLiveKey w.key) (fun k => (ingredientOf (t.output k.output).live k.src).isSome) readIngredient
      fun k level => t.writeLive k.output k.src level)

/-- WRITE of a pending INGREDIENT (R124). -/
def execWritePendingIngredient (w : WriteReq) (s : State) : Result :=
  .next (s.request 0x02 fun t =>
    answerWrite w (readPendingKey w.key) (fun k => (t.sources k.output true).contains k.src) readIngredient
      fun k level => t.writePending k.output k.src level)

/-- WRITE of ZONE (R137). -/
def execWriteZone (w : WriteReq) (s : State) : Result :=
  .next (s.request 0x02 fun t =>
    answerWrite w (readKey 1 1 16 w.key) t.zones.has readZone fun z x => .ok (t.writeZone z x))

/-- WRITE of GROUP (R141). -/
def execWriteGroup (w : WriteReq) (s : State) : Result :=
  .next (s.request 0x02 fun t =>
    answerWrite w (readKey 1 1 8 w.key) t.groups.has readGroup fun g x => t.putGroup g x.1 x.2)

/-- WRITE of PATTERN (R162). -/
def execWritePattern (w : WriteReq) (s : State) : Result :=
  .next (s.request 0x02 fun t =>
    answerWrite w (readKey 1 0 15 w.key) t.patterns.has readPattern fun k p => .ok (t.putPattern k p))

/-- WRITE of LINE (R195). -/
def execWriteLine (w : WriteReq) (s : State) : Result :=
  .next (s.request 0x02 fun t =>
    answerWriteAlways w (readKey 1 1 12 w.key) readLine fun l x => t.writeLine l x)

/-- WRITE of SETTINGS (R198). -/
def execWriteSettings (w : WriteReq) (s : State) : Result :=
  .next (s.request 0x02 fun t =>
    answerWrite w (readNoKey w.key) (fun _ => true) (readSettings t.settings) fun _ x => t.putSettings x)

/-- WRITE of STATUS (R193). -/
def execWriteStatus (w : WriteReq) (s : State) : Result :=
  .next (s.request 0x02 fun t => answerWriteAlways w (readNoKey w.key) readMask fun _ m => t.setMask m)

/-- WRITE of a table that refuses every WRITE, or of an unknown one: BAD_FIELD (R191). -/
def execWriteRefusedTable (_table : Option Byte) (_w : WriteReq) (s : State) : Result :=
  .next (s.request 0x02 fun _ => badField)

/-- RETIRE of ROLE (R32). -/
def execRetireRole (key : Option Bytes) (s : State) : Result :=
  .next (s.request 0x03 fun t => answerRetire (readKey 1 0 95 key) fun k => t.dropRole k)

/-- RETIRE of PERFORMER (R32). -/
def execRetirePerformer (key : Option Bytes) (s : State) : Result :=
  .next (s.request 0x03 fun t => answerRetire (readKey 1 0 127 key) fun k => t.dropPerformer k)

/-- RETIRE of PACK (R33). -/
def execRetirePack (key : Option Bytes) (s : State) : Result :=
  .next (s.request 0x03 fun t => answerRetire (readKey 1 0 95 key) fun k => t.dropPack k)

/-- RETIRE of CUE (R53). -/
def execRetireCue (key : Option Bytes) (s : State) : Result :=
  .next (s.request 0x03 fun t => answerRetire (readCueKey key) fun n => t.dropCue n)

/-- RETIRE of CLIP (R100). -/
def execRetireClip (key : Option Bytes) (s : State) : Result :=
  .next (s.request 0x03 fun t => answerRetire (readKey 2 0 511 key) fun k => t.dropClip k)

/-- RETIRE of a live INGREDIENT (R123). -/
def execRetireLiveIngredient (key : Option Bytes) (s : State) : Result :=
  .next (s.request 0x03 fun t => answerRetire (readLiveKey key) fun k => t.retireLive k.output k.src)

/-- RETIRE of a pending INGREDIENT (R125). -/
def execRetirePendingIngredient (key : Option Bytes) (s : State) : Result :=
  .next (s.request 0x03 fun t => answerRetire (readPendingKey key) fun k => t.retirePending k.output k.src)

/-- RETIRE of ZONE (R138). -/
def execRetireZone (key : Option Bytes) (s : State) : Result :=
  .next (s.request 0x03 fun t => answerRetire (readKey 1 1 16 key) fun z => t.dropZone z)

/-- RETIRE of GROUP (R141). -/
def execRetireGroup (key : Option Bytes) (s : State) : Result :=
  .next (s.request 0x03 fun t => answerRetire (readKey 1 1 8 key) fun g => t.dropGroup g)

/-- CANCEL_CALL: RETIRE on the CALL table (R156). -/
def execCancelCall (key : Option Bytes) (s : State) : Result :=
  .next (s.request 0x03 fun t => answerRetire (readKey 1 1 255 key) fun id => t.cancelCall id)

/-- RETIRE of PATTERN (R163). -/
def execRetirePattern (key : Option Bytes) (s : State) : Result :=
  .next (s.request 0x03 fun t => answerRetire (readKey 1 0 15 key) fun k => t.dropPattern k)

/-- RETIRE of a table whose records cannot be retired, or of an unknown one: BAD_FIELD (R191). -/
def execRetireRefusedTable (_table : Option Byte) (_key : Option Bytes) (s : State) : Result :=
  .next (s.request 0x03 fun _ => badField)

end Sys2Proof.Machine
end

