-- ==== Sys2Proof/Machine/Show.lean ====
section
/-! DEFINITION. The meanings of the show operations: cues, timecode, packs, foldback, calls, the house and the clock. -/

namespace Sys2Proof.Machine

/-- INSERT_CUE: the number assigned is the response (R52). -/
def execInsertCue (b : Body) (s : State) : Result :=
  .next (s.request 0x10 fun t =>
    (readInsert b).bind fun x => (t.insertCue x.1 x.2).map fun r => (r.1, putCueNumber r.2))

/-- STANDBY (R66). -/
def execStandby (b : Body) (s : State) : Result :=
  .next (s.request 0x11 fun t => answerOne b readCue fun n => t.standby n)

/-- CLEAR_STANDBY (R67). -/
def execClearStandby (b : Body) (s : State) : Result :=
  .next (s.request 0x12 fun t => answerNone b t.clearStandby)

/-- GO (R70). -/
def execGo (b : Body) (s : State) : Result :=
  .next (s.request 0x13 fun t => (readNone b).bind fun _ => t.requestGo)

/-- HOLD (R71). -/
def execHold (b : Body) (s : State) : Result := .next (s.request 0x14 fun t => answerNone b (t.requestHold true))

/-- UNHOLD (R71, R73). -/
def execUnhold (b : Body) (s : State) : Result := .next (s.request 0x15 fun t => answerNone b (t.requestHold false))

/-- TIME_FRAME (R88). -/
def execTimeFrame (b : Body) (s : State) : Result :=
  .next (s.request 0x18 fun t => answerOne b (readIn 0 2159999) fun f => t.timeFrame f)

/-- PACK_REPORT (R35). -/
def execPackReport (b : Body) (s : State) : Result :=
  .next (s.request 0x20 fun t => (readReport b).bind fun x => plain (t.report x.1 x.2.1 x.2.2))

/-- SWAP (R42). -/
def execSwap (b : Body) (s : State) : Result :=
  .next (s.request 0x21 fun t => answerOne b (readIn 0 127) fun k => t.swapPerformer k)

/-- TAKE (R127). -/
def execTake (b : Body) (s : State) : Result :=
  .next (s.request 0x28 fun t => (readTake b).bind fun x => plain (t.take x.1 x.2))

/-- DISCARD (R129). -/
def execDiscard (b : Body) (s : State) : Result :=
  .next (s.request 0x29 fun t => answerOne b (readIn 1 24) fun o => t.discard o)

/-- SET_CHECK (R133). -/
def execSetCheck (b : Body) (s : State) : Result :=
  .next (s.request 0x2A fun t => (readCheck b).bind fun x => plain (t.setCheck x.1 x.2))

/-- PLACE_CALL: the id assigned is the response (R144). -/
def execPlaceCall (b : Body) (s : State) : Result :=
  .next (s.request 0x30 fun t =>
    (readPlaceCall b).bind fun x => (t.placeCall x).map fun r => (r.1, [byteOf r.2]))

/-- END_CALL (R154). -/
def execEndCall (b : Body) (s : State) : Result :=
  .next (s.request 0x31 fun t => answerOne b (readIn 1 255) fun id => t.endCall id)

/-- STOP_SHOW (R174). -/
def execStopShow (b : Body) (s : State) : Result := .next (s.request 0x38 fun t => answerNone b t.stopShow)

/-- RESUME (R177). -/
def execResume (b : Body) (s : State) : Result := .next (s.request 0x39 fun t => answerNone b t.resume)

/-- END_SHOW (R178). -/
def execEndShow (b : Body) (s : State) : Result := .next (s.request 0x3A fun t => answerNone b t.endShow)

/-- EVAC (R179). -/
def execEvac (b : Body) (s : State) : Result := .next (s.request 0x3B fun t => answerNone b t.evac)

/-- CLEAR_EVAC (R180). -/
def execClearEvac (b : Body) (s : State) : Result := .next (s.request 0x3C fun t => answerNone b t.clearEvac)

/-- DARK (R181). -/
def execDark (b : Body) (s : State) : Result := .next (s.request 0x3D fun t => answerNone b t.dark)

/-- WAKE (R182). -/
def execWake (b : Body) (s : State) : Result := .next (s.request 0x3E fun t => answerNone b t.wake)

/-- RESTART_AUDIO (R183). -/
def execRestartAudio (b : Body) (s : State) : Result := .next (s.request 0x3F fun t => answerNone b t.restartAudio)

/-- USE_EXTERNAL_CLOCK (R187). -/
def execUseExternalClock (b : Body) (s : State) : Result :=
  .next (s.request 0x40 fun t => answerNone b t.useExternal)

end Sys2Proof.Machine
end

