-- ==== Sys2Proof/Machine/Signals.lean ====
section
/-! DEFINITION. The meanings of the commands that are no request: RESET, the clock, the sample period, the control tick,
the flash's answer, and the part's internal events. A command from outside the part first takes every event that has come
due; an event whose condition does not hold changes nothing but the agenda (log entries 1 and 3). -/

namespace Sys2Proof.Machine

/-- POWER_ON_RESET (R184). -/
def execPowerOnReset (s : State) : Result := .next s.powerOnReset

/-- CLOCK_SELECTION (R185). -/
def execClockSelection (edge : Bool) (s : State) : Result := .next (s.settle.selectClock edge)

/-- WCLK_LOSS (R185, R187). -/
def execWclkLoss (s : State) : Result := .next s.settle.wclkLoss

/-- WCLK_RETURN (R185). -/
def execWclkReturn (s : State) : Result := .next s.settle.wclkReturn

/-- EXTERNAL_CLOCK_SWITCH (R187). -/
def execExternalClockSwitch (s : State) : Result := .next s.settle.switchClock

/-- SAMPLE_PERIOD (R4). -/
def execSamplePeriod (inp : InPorts) (s : State) : Result := .next (s.settle.samplePeriod inp)

/-- CLIP_END (R106, R108, R151). -/
def execClipEnd (v : Nat) (s : State) : Result := .next (s.event (.clipEnd v))

/-- MARK_END (R167). -/
def execMarkEnd (g : Nat) (s : State) : Result := .next (s.event (.markEnd g))

/-- CYCLE_END (R168). -/
def execCycleEnd (g : Nat) (s : State) : Result := .next (s.event (.cycleEnd g))

/-- CHIME_COMPLETE (R169). -/
def execChimeComplete (g : Nat) (s : State) : Result := .next (s.event (.chimeComplete g))

/-- REFILL_GRANT (R112). -/
def execRefillGrant (s : State) : Result := .next (s.event .refillGrant)

/-- REFILL_COMPLETE (R112). -/
def execRefillComplete (data : Bytes) (s : State) : Result := .next (s.settle.completeRefill data)

/-- CONTROL_TICK (R182). -/
def execControlTick (pins : BitVec 12) (s : State) : Result := .next (s.settle.controlTick pins)

/-- RAMP_COMPLETE (R15). -/
def execRampComplete (e : Nat) (s : State) : Result := .next (s.event (.rampComplete e))

/-- GATE_CLOSED (R21). -/
def execGateClosed (v : Nat) (s : State) : Result := .next (s.event (.gateClosed v))

/-- GATE_OPENED (R21). -/
def execGateOpened (v : Nat) (s : State) : Result := .next (s.event (.gateOpened v))

/-- CROSSFADE_END (R22). -/
def execCrossfadeEnd (o : Nat) (src : Source) (s : State) : Result := .next (s.event (.crossfadeEnd o src))

/-- PACK_TIMEOUT (R37). -/
def execPackTimeout (p : Nat) (s : State) : Result := .next (s.event (.packTimeout p))

/-- ACTION_DUE (R79). -/
def execActionDue (r : Nat) (s : State) : Result := .next (s.event (.actionDue r))

/-- FOLLOW_EXPIRY (R80). -/
def execFollowExpiry (r : Nat) (s : State) : Result := .next (s.event (.followExpiry r))

/-- DARK_GAP_END (R84). -/
def execDarkGapEnd (s : State) : Result := .next (s.event .darkGapEnd)

/-- FLASH_PHASE (R84). -/
def execFlashPhase (s : State) : Result := .next (s.event .flashPhase)

/-- CHASE_FRAME_ADVANCE (R90). -/
def execChaseFrameAdvance (s : State) : Result := .next (s.event .chaseFrameAdvance)

/-- CHASE_SILENCE (R91). -/
def execChaseSilence (s : State) : Result := .next (s.event .chaseSilence)

/-- FREEWHEEL_EXPIRY (R93). -/
def execFreewheelExpiry (s : State) : Result := .next (s.event .freewheelExpiry)

/-- TIMECODE_GO (R95). -/
def execTimecodeGo (s : State) : Result := .next (s.event .timecodeGo)

/-- OPENING_END (R149). -/
def execOpeningEnd (c : Nat) (s : State) : Result := .next (s.event (.openingEnd c))

/-- CLOSING_END (R153). -/
def execClosingEnd (c : Nat) (s : State) : Result := .next (s.event (.closingEnd c))

/-- GAP_END (R159). -/
def execGapEnd (c : Nat) (s : State) : Result := .next (s.event (.gapEnd c))

/-- LIVE_MAXIMUM (R152). -/
def execLiveMaximum (c : Nat) (s : State) : Result := .next (s.event (.liveMaximum c))

/-- GO_LINE_ACTIVATION (R69). -/
def execGoLineActivation (l : Nat) (s : State) : Result := .next (s.event (.goLine l))

/-- HOLD_LINE_ACTIVATION (R71). -/
def execHoldLineActivation (l : Nat) (s : State) : Result := .next (s.event (.holdLine l))

/-- HOLD_LINE_RELEASE (R73). -/
def execHoldLineRelease (l : Nat) (s : State) : Result := .next (s.event (.holdRelease l))

/-- STOP_LINE_ACTIVATION (R174). -/
def execStopLineActivation (l : Nat) (s : State) : Result := .next (s.event (.stopLine l))

/-- RESUME_LINE_ACTIVATION (R174). -/
def execResumeLineActivation (l : Nat) (s : State) : Result := .next (s.event (.resumeLine l))

/-- EVAC_LINE_ACTIVATION (R174, R179). -/
def execEvacLineActivation (l : Nat) (s : State) : Result := .next (s.event (.evacLine l))

/-- EVAC_LINE_RELEASE (R175). -/
def execEvacLineRelease (l : Nat) (s : State) : Result := .next (s.event (.evacRelease l))

/-- WAKE_LINE_ACTIVATION (R182). -/
def execWakeLineActivation (l : Nat) (s : State) : Result := .next (s.event (.wakeLine l))

/-- PTT_PRESS (R146). -/
def execPttPress (l : Nat) (s : State) : Result := .next (s.event (.pttPress l))

/-- PTT_RELEASE (R146). -/
def execPttRelease (l : Nat) (s : State) : Result := .next (s.event (.pttRelease l))

end Sys2Proof.Machine
end

