-- ==== Sys2Proof/Machine/Dispatch.lean ====
section
/-! DEFINITION. The dispatch: one arm per command, each one call of its meaning. -/

namespace Sys2Proof.Machine

/-- The effect of a command on everything but the queue. -/
def exec (i : Instr) (s : State) : Host.Outcome State Fault Refusal :=
  match i with
  | .powerOnReset => Sys2Proof.Machine.execPowerOnReset s
  | .clockSelection edge => Sys2Proof.Machine.execClockSelection edge s
  | .wclkLoss => Sys2Proof.Machine.execWclkLoss s
  | .wclkReturn => Sys2Proof.Machine.execWclkReturn s
  | .externalClockSwitch => Sys2Proof.Machine.execExternalClockSwitch s
  | .samplePeriod inp => Sys2Proof.Machine.execSamplePeriod inp s
  | .clipEnd voice => Sys2Proof.Machine.execClipEnd voice s
  | .markEnd gen => Sys2Proof.Machine.execMarkEnd gen s
  | .cycleEnd gen => Sys2Proof.Machine.execCycleEnd gen s
  | .chimeComplete gen => Sys2Proof.Machine.execChimeComplete gen s
  | .refillGrant => Sys2Proof.Machine.execRefillGrant s
  | .refillComplete data => Sys2Proof.Machine.execRefillComplete data s
  | .controlTick pins => Sys2Proof.Machine.execControlTick pins s
  | .rampComplete entry => Sys2Proof.Machine.execRampComplete entry s
  | .gateClosed voice => Sys2Proof.Machine.execGateClosed voice s
  | .gateOpened voice => Sys2Proof.Machine.execGateOpened voice s
  | .crossfadeEnd output src => Sys2Proof.Machine.execCrossfadeEnd output src s
  | .packTimeout pack => Sys2Proof.Machine.execPackTimeout pack s
  | .actionDue run => Sys2Proof.Machine.execActionDue run s
  | .followExpiry run => Sys2Proof.Machine.execFollowExpiry run s
  | .darkGapEnd => Sys2Proof.Machine.execDarkGapEnd s
  | .flashPhase => Sys2Proof.Machine.execFlashPhase s
  | .chaseFrameAdvance => Sys2Proof.Machine.execChaseFrameAdvance s
  | .chaseSilence => Sys2Proof.Machine.execChaseSilence s
  | .freewheelExpiry => Sys2Proof.Machine.execFreewheelExpiry s
  | .timecodeGo => Sys2Proof.Machine.execTimecodeGo s
  | .openingEnd call => Sys2Proof.Machine.execOpeningEnd call s
  | .closingEnd call => Sys2Proof.Machine.execClosingEnd call s
  | .gapEnd call => Sys2Proof.Machine.execGapEnd call s
  | .liveMaximum call => Sys2Proof.Machine.execLiveMaximum call s
  | .goLineActivation line => Sys2Proof.Machine.execGoLineActivation line s
  | .holdLineActivation line => Sys2Proof.Machine.execHoldLineActivation line s
  | .holdLineRelease line => Sys2Proof.Machine.execHoldLineRelease line s
  | .stopLineActivation line => Sys2Proof.Machine.execStopLineActivation line s
  | .resumeLineActivation line => Sys2Proof.Machine.execResumeLineActivation line s
  | .evacLineActivation line => Sys2Proof.Machine.execEvacLineActivation line s
  | .evacLineRelease line => Sys2Proof.Machine.execEvacLineRelease line s
  | .wakeLineActivation line => Sys2Proof.Machine.execWakeLineActivation line s
  | .pttPress line => Sys2Proof.Machine.execPttPress line s
  | .pttRelease line => Sys2Proof.Machine.execPttRelease line s
  | .readTransaction count => Sys2Proof.Machine.execReadTransaction count s
  | .badFrame rx => Sys2Proof.Machine.execBadFrame rx s
  | .unknownRequest code => Sys2Proof.Machine.execUnknownRequest code s
  | .nop body => Sys2Proof.Machine.execNop body s
  | .lookup req => Sys2Proof.Machine.execLookup req s
  | .nextKey req => Sys2Proof.Machine.execNextKey req s
  | .writeRole w => Sys2Proof.Machine.execWriteRole w s
  | .writePerformer w => Sys2Proof.Machine.execWritePerformer w s
  | .writePack w => Sys2Proof.Machine.execWritePack w s
  | .writeCue w => Sys2Proof.Machine.execWriteCue w s
  | .writeFlags w => Sys2Proof.Machine.execWriteFlags w s
  | .writeCueState w => Sys2Proof.Machine.execWriteCueState w s
  | .writeClip w => Sys2Proof.Machine.execWriteClip w s
  | .writeProgramme w => Sys2Proof.Machine.execWriteProgramme w s
  | .writeFoldback w => Sys2Proof.Machine.execWriteFoldback w s
  | .writeLiveIngredient w => Sys2Proof.Machine.execWriteLiveIngredient w s
  | .writePendingIngredient w => Sys2Proof.Machine.execWritePendingIngredient w s
  | .writeZone w => Sys2Proof.Machine.execWriteZone w s
  | .writeGroup w => Sys2Proof.Machine.execWriteGroup w s
  | .writePattern w => Sys2Proof.Machine.execWritePattern w s
  | .writeLine w => Sys2Proof.Machine.execWriteLine w s
  | .writeSettings w => Sys2Proof.Machine.execWriteSettings w s
  | .writeStatus w => Sys2Proof.Machine.execWriteStatus w s
  | .writeRefusedTable table w => Sys2Proof.Machine.execWriteRefusedTable table w s
  | .retireRole key => Sys2Proof.Machine.execRetireRole key s
  | .retirePerformer key => Sys2Proof.Machine.execRetirePerformer key s
  | .retirePack key => Sys2Proof.Machine.execRetirePack key s
  | .retireCue key => Sys2Proof.Machine.execRetireCue key s
  | .retireClip key => Sys2Proof.Machine.execRetireClip key s
  | .retireLiveIngredient key => Sys2Proof.Machine.execRetireLiveIngredient key s
  | .retirePendingIngredient key => Sys2Proof.Machine.execRetirePendingIngredient key s
  | .retireZone key => Sys2Proof.Machine.execRetireZone key s
  | .retireGroup key => Sys2Proof.Machine.execRetireGroup key s
  | .cancelCall key => Sys2Proof.Machine.execCancelCall key s
  | .retirePattern key => Sys2Proof.Machine.execRetirePattern key s
  | .readStatus body => Sys2Proof.Machine.execReadStatus body s
  | .clearEvents body => Sys2Proof.Machine.execClearEvents body s
  | .insertCue body => Sys2Proof.Machine.execInsertCue body s
  | .standby body => Sys2Proof.Machine.execStandby body s
  | .clearStandby body => Sys2Proof.Machine.execClearStandby body s
  | .go body => Sys2Proof.Machine.execGo body s
  | .hold body => Sys2Proof.Machine.execHold body s
  | .unhold body => Sys2Proof.Machine.execUnhold body s
  | .timeFrame body => Sys2Proof.Machine.execTimeFrame body s
  | .packReport body => Sys2Proof.Machine.execPackReport body s
  | .swap body => Sys2Proof.Machine.execSwap body s
  | .take body => Sys2Proof.Machine.execTake body s
  | .discard body => Sys2Proof.Machine.execDiscard body s
  | .setCheck body => Sys2Proof.Machine.execSetCheck body s
  | .placeCall body => Sys2Proof.Machine.execPlaceCall body s
  | .endCall body => Sys2Proof.Machine.execEndCall body s
  | .stopShow body => Sys2Proof.Machine.execStopShow body s
  | .resume body => Sys2Proof.Machine.execResume body s
  | .endShow body => Sys2Proof.Machine.execEndShow body s
  | .evac body => Sys2Proof.Machine.execEvac body s
  | .clearEvac body => Sys2Proof.Machine.execClearEvac body s
  | .dark body => Sys2Proof.Machine.execDark body s
  | .wake body => Sys2Proof.Machine.execWake body s
  | .restartAudio body => Sys2Proof.Machine.execRestartAudio body s
  | .useExternalClock body => Sys2Proof.Machine.execUseExternalClock body s
  | .retireRefusedTable table key => Sys2Proof.Machine.execRetireRefusedTable table key s

end Sys2Proof.Machine
end

