-- ==== Sys2Proof/Machine/Outputs.lean ====
section
/-! DEFINITION. What the part drives beside the output lines and the ports: IRQ, the bytes shifted out on the command link, and
the bytes sent to the flash, each computed from the state (R112, R189, R194; log entries 25 and 26). -/

namespace Sys2Proof.Machine

/-- Is IRQ driven low: is a flag set whose mask bit is set (R194)? -/
def State.irq (s : State) : Bool := s.status.events &&& s.status.mask != 0#32

/-- The `n` bytes shifted out in a transaction of `n` bytes: the response frame, then 0 for each byte after it (R189). -/
def State.dataOut (s : State) (n : Nat) : Bytes := (List.range n).map fun i => s.response.getD i 0

/-- The bytes of a read as the flash is sent them: the command, and the address in four bytes (R112). -/
def FlashRead.sent (r : FlashRead) : Bytes := r.command :: toBE 4 r.address.toNat

/-- What the clip port sends the flash for the refill in flight: the command and address of each read (R112). -/
def State.flashOut (s : State) : List Bytes := ((s.voiceUnit.refill.map Refill.reads).getD []).map FlashRead.sent

end Sys2Proof.Machine
end

