-- ==== Sys2Proof/Safety.lean ====
section
/-! DEFINITION. What the statements hold the part to: laws the manual states about whole tables, and runs that stay safe. -/

namespace Sys2Proof.Machine

/-- The cue list and the action pool within their bounds: cues strictly ascending, at most 1024, every cue with at
most 32 actions, and at most 8192 actions in all (R46, R47, R49). -/
def State.cueListLaw (s : State) : Bool :=
  s.cues.sorted && s.cues.length ≤ 1024 && (s.cues.all fun kc => kc.2.actions.length ≤ 32) && s.actionsHeld ≤ 8192

/-- The ramp pool within its bounds: entries 0 to 127, each once, and at most one ramp on an element (R10). -/
def State.rampLaw (s : State) : Bool :=
  s.ramps.sorted && (s.ramps.all fun er => er.1 < 128) && decide (s.ramps.map fun er => er.2.element).Nodup

/-- The event flags and the mask hold assigned bits alone, and no counter passes 65535 (section 11.3, R193, R194). -/
def State.statusLaw (s : State) : Bool :=
  s.status.events &&& ~~~assignedFlags == 0#32 && s.status.mask &&& ~~~assignedFlags == 0#32 &&
    s.status.clipped ≤ 65535 && s.status.rampOverflow ≤ 65535 && s.status.actionSkipped ≤ 65535 &&
    s.status.underrun ≤ 65535

/-- The records that exist at all times exist: 16 voices, 8 programme outputs, 24 foldback outputs, 4 generators, 12
lines and a protect for each of the 64 channels (section 1.3 and the record tables of chapters 6, 7, 9 and 11). -/
def State.standing (s : State) : Bool :=
  s.voices.keys == numberedKeys 16 && s.programmes.keys == numberedKeys 8 && s.outputs.keys == numberedKeys 24 &&
    s.gens.keys == numberedKeys 4 && s.lines.keys == numberedKeys 12 && s.protect.keys == numberedKeys 64
where numberedKeys (n : Nat) : List Nat := (List.range n).map (· + 1)

/-- The response buffer as a taken request leaves it: OK, the request's code, and a body (R189, section 11.6). -/
def State.answered (code : Byte) (body : Bytes) (s : State) : State :=
  { s with response := responseFrame 0x00 code body }

/-- The response buffer as a refused request leaves it: the status, the request's code, an empty body (R190). -/
def State.turnedAway (code : Byte) (e : Status) (s : State) : State :=
  { s with response := responseFrame e.code code [] }

/-- Does a WRITE's mode take a record: MERGE always, CREATE where the record is absent (R191)? -/
def modeTakes (mode : Option Byte) (isPresent : Bool) : Bool := mode == some 0 || (mode == some 1 && !isPresent)

/-! ### Internal events -/

/-- The command of an internal event: its row of the opcode table. -/
def Event.command : Event → Instr
  | .clipEnd v => .clipEnd v
  | .markEnd g => .markEnd g
  | .cycleEnd g => .cycleEnd g
  | .chimeComplete g => .chimeComplete g
  | .refillGrant => .refillGrant
  | .rampComplete e => .rampComplete e
  | .gateClosed v => .gateClosed v
  | .gateOpened v => .gateOpened v
  | .crossfadeEnd o src => .crossfadeEnd o src
  | .packTimeout p => .packTimeout p
  | .actionDue r => .actionDue r
  | .followExpiry r => .followExpiry r
  | .darkGapEnd => .darkGapEnd
  | .flashPhase => .flashPhase
  | .chaseFrameAdvance => .chaseFrameAdvance
  | .chaseSilence => .chaseSilence
  | .freewheelExpiry => .freewheelExpiry
  | .timecodeGo => .timecodeGo
  | .openingEnd c => .openingEnd c
  | .closingEnd c => .closingEnd c
  | .gapEnd c => .gapEnd c
  | .liveMaximum c => .liveMaximum c
  | .goLine l => .goLineActivation l
  | .holdLine l => .holdLineActivation l
  | .holdRelease l => .holdLineRelease l
  | .stopLine l => .stopLineActivation l
  | .resumeLine l => .resumeLineActivation l
  | .evacLine l => .evacLineActivation l
  | .evacRelease l => .evacLineRelease l
  | .wakeLine l => .wakeLineActivation l
  | .pttPress l => .pttPress l
  | .pttRelease l => .pttRelease l

/-- A state with an internal event that has come due, the next to be taken (log entry 1). -/
def State.due (e : Event) (s : State) : State := { s with agenda := e :: s.agenda }

/-! ### Laws of the cast, the cue engine, the buffers and the zones -/

/-- The packs that the performers name, each as often as it is named. -/
def State.packsNamed (s : State) : List Nat :=
  s.performers.flatMap fun kp => kp.2.primary.toList ++ kp.2.spare.toList

/-- The cast table's law: every pack named is present and named once, every role's performer is present, and no two packs
are on one channel (R24, R25, R26). -/
def State.castLaw (s : State) : Bool :=
  s.roles.sorted && s.performers.sorted && s.packs.sorted && decide s.packsNamed.Nodup && s.packsNamed.all s.packs.has &&
    (s.roles.all fun kr => kr.2.performer.all s.performers.has) && decide (s.packs.map fun kp => kp.2.channel).Nodup

/-- The recipes of every output: in the live and in the pending one no two ingredients of one source, and at most 16 (R120). -/
def State.recipeLaw (s : State) : Bool :=
  s.outputs.all fun kb =>
    let waiting := kb.2.pending.getD []
    decide (kb.2.live.map Ingredient.src).Nodup && decide (waiting.map PendingIngredient.src).Nodup &&
      kb.2.live.length ≤ 16 && waiting.length ≤ 16

/-- The BUSY cue runs: numbers 1 to 8, each once, and so at most 8 (R75). -/
def State.runsLaw (s : State) : Bool :=
  s.cue.runs.sorted && (s.cue.runs.all fun kr => 1 ≤ kr.1 && kr.1 ≤ 8) && s.cue.runs.length ≤ 8

/-- The lamp is the one R84's conditions give, or the dark gap has just run out and its end stands due. -/
def State.lampLaw (s : State) : Bool :=
  s.cue.lamp == s.lampNow || (s.cue.darkGap == 0 && s.agenda.contains .darkGapEnd)

/-- A refill in flight brings at most 128 samples, and the voice it is for, unless it has disowned the refill, has room for
them and no other request out (R111). -/
def State.refillFits (s : State) : Bool :=
  match s.voiceUnit.refill with
  | none => true
  | some r =>
    r.addresses.length ≤ 128 && (r.disowned || ((s.voice r.voice).buffer.length ≤ 128 && !(s.voice r.voice).requested))

/-- The voice buffers: at most 256 samples, at most 128 where a refill is requested or in flight (R111). -/
def State.bufferLaw (s : State) : Bool :=
  (s.voices.all fun kv => kv.2.buffer.length ≤ 256 && (!kv.2.requested || kv.2.buffer.length ≤ 128)) && s.refillFits

/-- A move that is held with a voice's pending playback is one of that voice's own level, and what it may perform when it completes
is a stop of that voice (R15, R103). -/
def State.heldMoveLaw (s : State) : Bool :=
  s.voices.all fun kv => (kv.2.pending.bind PendingPlay.held).all fun m =>
    m.element == .voice kv.1 && m.action.all fun a =>
      match a with
      | .stopVoice v _ => v == kv.1
      | .removeIngredient _ _ => false

/-- A call's hold on its zones: one entry a zone, each the stage or a present zone, and where an entry is ACTIVE the pass is in
a phase that holds zones and the zone is the call's (R143, R147). -/
def State.entriesHold (s : State) (id : Nat) (c : Call) : Bool :=
  decide c.entries.keys.Nodup && (c.entries.all fun e => e.1 == 0 || s.zones.has e.1) &&
    c.entries.all fun e => e.2 != .active || (c.phase.holds && s.occupant e.1 == some ⟨id, c.priority⟩)

/-- A zone, or the stage, is free, or its occupant is a present call of that priority with an ACTIVE entry for it (R147). -/
def State.occupantHolds (s : State) (z : Nat) : Bool :=
  match s.occupant z with
  | none => true
  | some o =>
    match s.call o.id with
    | none => false
    | some c => c.priority == o.priority && c.entries.get z == some .active

/-- The zones and the calls: zones 1 to 16, at most 24 calls with ids 1 to 255, groups of present zones, and one occupant a
zone, which the call table's ACTIVE entries agree with (R137, R141, R143, R147). -/
def State.occupancyLaw (s : State) : Bool :=
  s.zones.sorted && (s.zones.all fun kz => 1 ≤ kz.1 && kz.1 ≤ 16) && s.relay.calls.sorted &&
    (s.relay.calls.all fun kc => 1 ≤ kc.1 && kc.1 ≤ 255) && s.relay.calls.length ≤ 24 &&
    (s.groups.all fun kg => kg.2.members.all s.zones.has) && (s.relay.calls.all fun kc => s.entriesHold kc.1 kc.2) &&
    (0 :: s.zones.keys).all s.occupantHolds

/-- The running activity of the part as an audio restart leaves it (R44, R86, R98, R117, R136, R161, R173, R183). -/
def State.atRestart (s : State) : Bool :=
  s.ramps.isEmpty && (s.voices.all fun kv => kv.2.state == .idle && kv.2.gate == Gate.atOpen) &&
    s.voiceUnit.waiting.isEmpty && s.voiceUnit.lastServed == 16 && s.relay.calls.isEmpty && s.relay.stage.isNone &&
    (s.zones.all fun kz => kz.2.occupant.isNone && kz.2.duck == 0) &&
    (s.outputs.all fun kb => kb.2.duck == 0 && kb.2.check == .normal && kb.2.live.all fun i => i.outgoing.isNone) &&
    (s.packs.all fun kp => kp.2.health == .unknown && kp.2.progress == 0 && kp.2.age == 0) &&
    (s.protect.all fun kf => kf.2 == 0) && (s.gens.all fun kg => kg.2 == Generator.reset) &&
    s.cue.latch.isNone && !s.cue.pendingGo && s.cue.missed == 0 && !s.cue.holdRequest && s.cue.lastFired.isNone &&
    s.cue.runs.isEmpty && s.cue.darkGap == 0 && s.chase == Chase.reset && !s.house.held && s.house.heldTime == 0

end Sys2Proof.Machine
end

