-- ==== Sys2Proof/Certificates/Slice0/Obligations.lean ====
section
/-! DEFINITION. The statements for the provers. In them `s.settle` is the state once every internal event that has come
due has been taken (log entry 1), and `t.due e` the state `t` with the event `e` due and first to be taken. -/

open Sys2Proof Sys2Proof.Machine

/-! ### The step, the queue and the agenda -/

/-- With a command at the front of the queue, a step is that command's effect on the state with the queue's rest. With no command
waiting a step changes nothing: the model's choice (log entry 2). -/
def Obligations.StepRunsFrontCommand : Prop :=
  (∀ (c : Instr) (rest : List Instr) (s : State),
    step { s with pending := c :: rest } = exec c { s with pending := rest }) ∧
  (∀ s : State, s.pending = [] → step s = .next s)

/-- No command of the part faults or is refused by the model: each leaves a next state, and none touches the queue of commands
that wait. -/
def Obligations.EveryCommandCompletes : Prop :=
  ∀ (i : Instr) (s : State), ∃ t, exec i s = .next t ∧ t.pending = s.pending

/-- Events that have come due are taken in the order in which they came due: before a command from outside, and before a later one
that comes as a command of its own. With none due nothing is taken (the model's agenda: log entry 1). -/
def Obligations.EventsTakeTheirTurn : Prop :=
  (∀ s : State, s.agenda = [] → s.settle = s) ∧
  (∀ (e : Event) (t : State), t.agenda = [] → (t.takeEvent e).agenda = [] → (t.due e).settle = t.takeEvent e) ∧
  (∀ (e : Event) (t : State), exec e.command (t.due e) = .next (t.takeEvent e)) ∧
  (∀ (e f : Event) (rest rest' : List Event) (t u : State), f ≠ e →
    State.takeEvent f { t with agenda := e :: rest } = u → u.agenda = e :: rest' →
    exec e.command { t with agenda := f :: e :: rest } = .next (State.takeEvent e { u with agenda := rest' }))

/-! ### The command link -/

/-- The frame of every well-formed command of the host is received as that command: no bit of it is dropped. -/
def Obligations.FrameDecodesToItsCommand : Prop :=
  ∀ (i : Instr) (f : Bytes), commandFrame i = some f → frameCommand f = i

/-- Frames written out by hand from section 11.6, and the commands they carry; the CRC of three bytes of 0 is 2B. -/
def Obligations.HandWrittenFramesDecode : Prop :=
  crc8 [0x00, 0x00, 0x00] = 0x2B ∧
  frameCommand [0x00, 0x00, 0x00, 0x2B] = .nop (some []) ∧
  frameCommand [0x13, 0x00, 0x00, 0x34] = .go (some []) ∧
  frameCommand [0x11, 0x00, 0x05, 0x01, 0x03, 0x00, 0x0C, 0x32, 0x48] = .standby (some [⟨1, [0x00, 0x0C, 0x32]⟩]) ∧
  frameCommand [0x03, 0x00, 0x03, 0x0F, 0x01, 0x07, 0xA9] = .cancelCall (some [0x07]) ∧
  frameCommand [0x13, 0x00, 0x00, 0x34, 0x55] = .go (some []) ∧
  frameCommand [0xFF, 0xFF] = .readTransaction 2 ∧
  frameCommand [0x00, 0x00, 0x00, 0xFF] = .badFrame [0x00, 0x00, 0x00, 0xFF]

/-- A transaction that carries no request changes nothing, the response buffer included. A bad frame and an unknown request code
are answered with their statuses, the code echoed and an empty body, and NOP with OK and an empty body; nothing else changes but
what had come due. A transaction of `n` bytes shifts out the response frame, and 0 for each byte after it. -/
def Obligations.LinkAnswers : Prop :=
  (∀ (n : Nat) (s : State), exec (.readTransaction n) s = .next s) ∧
  (∀ s t : State, s.settle = t →
    (∀ rx : Bytes, exec (.badFrame rx) s = .next (t.turnedAway (rx.getD 0 0) .badFrame)) ∧
    (∀ code : Byte, exec (.unknownRequest code) s = .next (t.turnedAway code .unknownRequest)) ∧
    exec (.nop (some [])) s = .next (t.answered 0x00 [])) ∧
  (∀ (n i : Nat) (s : State), (s.dataOut n).length = n ∧
    (i < n → (s.dataOut n)[i]? = some (if h : i < s.response.length then s.response[i] else 0)))

/-- A request that is refused changes the response alone, which then carries the status and an empty body; a CREATE of a present
record, and of a record that exists at all times, is refused EXISTS; and WRITE and RETIRE of a table that takes none are
refused BAD_FIELD. What had come due is taken first (log entry 1). -/
def Obligations.RefusedRequestsChangeTheResponseAlone : Prop :=
  (∀ (i : Instr) (code : Byte) (body : Bytes) (s t u : State), s.settle = t → i.codeBody = some (code, body) →
    exec i s = .next u → u.response.head? ≠ some 0x00 → ∃ e : Status, u = t.turnedAway code e) ∧
  (∀ (w : WriteReq) (k : Nat) (s t : State), s.settle = t → w.mode = some 1 →
    (readKey 1 0 95 w.key = .ok k →
      (t.roles.has k = true → exec (.writeRole w) s = .next (t.turnedAway 0x02 .exists)) ∧
      (t.packs.has k = true → exec (.writePack w) s = .next (t.turnedAway 0x02 .exists))) ∧
    (readKey 1 0 127 w.key = .ok k → t.performers.has k = true →
      exec (.writePerformer w) s = .next (t.turnedAway 0x02 .exists)) ∧
    (readCueKey w.key = .ok k → t.cues.has k = true → exec (.writeCue w) s = .next (t.turnedAway 0x02 .exists)) ∧
    (readKey 2 0 511 w.key = .ok k → t.clips.has k = true → exec (.writeClip w) s = .next (t.turnedAway 0x02 .exists)) ∧
    (readKey 1 1 16 w.key = .ok k → t.zones.has k = true → exec (.writeZone w) s = .next (t.turnedAway 0x02 .exists)) ∧
    (readKey 1 1 8 w.key = .ok k →
      (t.groups.has k = true → exec (.writeGroup w) s = .next (t.turnedAway 0x02 .exists)) ∧
      exec (.writeProgramme w) s = .next (t.turnedAway 0x02 .exists)) ∧
    (readKey 1 0 15 w.key = .ok k → t.patterns.has k = true →
      exec (.writePattern w) s = .next (t.turnedAway 0x02 .exists)) ∧
    (readKey 1 1 24 w.key = .ok k → exec (.writeFoldback w) s = .next (t.turnedAway 0x02 .exists)) ∧
    (readKey 1 1 12 w.key = .ok k → exec (.writeLine w) s = .next (t.turnedAway 0x02 .exists)) ∧
    (w.key = some [] →
      exec (.writeFlags w) s = .next (t.turnedAway 0x02 .exists) ∧
      exec (.writeCueState w) s = .next (t.turnedAway 0x02 .exists) ∧
      exec (.writeSettings w) s = .next (t.turnedAway 0x02 .exists) ∧
      exec (.writeStatus w) s = .next (t.turnedAway 0x02 .exists))) ∧
  (∀ (w : WriteReq) (k : RecipeKey) (s t : State), s.settle = t → w.mode = some 1 →
    (readLiveKey w.key = .ok k → (ingredientOf (t.output k.output).live k.src).isSome = true →
      exec (.writeLiveIngredient w) s = .next (t.turnedAway 0x02 .exists)) ∧
    (readPendingKey w.key = .ok k → k.src ∈ t.sources k.output true →
      exec (.writePendingIngredient w) s = .next (t.turnedAway 0x02 .exists))) ∧
  (∀ (table : Option Byte) (w : WriteReq) (key : Option Bytes) (s t : State), s.settle = t →
    exec (.writeRefusedTable table w) s = .next (t.turnedAway 0x02 .badField) ∧
    exec (.retireRefusedTable table key) s = .next (t.turnedAway 0x03 .badField))

/-- LOOKUP answers the record it finds and changes nothing else; of a role the record is its key, label, performer and
reference count, as the first four fields; of an absent role it is refused NO_SUCH. That a number takes the fewest bytes
(`putNat`), and that the entries of different fields stand in ascending field number, are the model's choices (log entries 9 and
46): R192 allows 1 to 4 bytes, and fixes no order of the fields. -/
def Obligations.LookupAnswersTheRecord : Prop :=
  (∀ (r : KeyReq) (record : Bytes) (s t : State), s.settle = t → t.lookup r = .ok record →
    exec (.lookup r) s = .next (t.answered 0x01 record)) ∧
  (∀ (k : Byte) (r : Role) (s t : State), s.settle = t → k.toNat ≤ 95 → t.roles.get k.toNat = some r →
    exec (.lookup ⟨some 1, some [k]⟩) s = .next (t.answered 0x01 (encodeEntries
      [⟨1, [k]⟩, ⟨2, r.label⟩, ⟨3, putOption putNat r.performer⟩, ⟨4, putNat (t.roleCount k.toNat)⟩]))) ∧
  (∀ (k : Byte) (s t : State), s.settle = t → k.toNat ≤ 95 → t.roles.get k.toNat = none →
    exec (.lookup ⟨some 1, some [k]⟩) s = .next (t.turnedAway 0x01 .noSuch))

/-- NEXT_KEY walks a table in rising key order: the lowest key for a key of length 0, then the lowest key above the one named, and
NO_SUCH when there is none; it changes nothing else. An ingredient's walk begins at the start of the recipe that a key of two
bytes names, and goes on in join order within the recipe; with a key of length 0 it begins at the lowest output's live recipe,
which is the model's reading of "the lowest key" (log entry 34). -/
def Obligations.NextKeyWalksInOrder : Prop :=
  (∀ (r : KeyReq) (key : Bytes) (s t : State), s.settle = t → t.nextKey r = .ok key →
    exec (.nextKey r) s = .next (t.answered 0x04 key)) ∧
  (∀ (k : Nat) (x : Role) (rest : Table Role) (s t : State), s.settle = t → t.roles = (k, x) :: rest →
    exec (.nextKey ⟨some 1, some []⟩) s = .next (t.answered 0x04 [BitVec.ofNat 8 k])) ∧
  (∀ (k : Byte) (s t : State), s.settle = t → t.roles.sorted = true → k.toNat ≤ 95 →
    (∀ m x, t.roles.get m = some x → k.toNat < m →
      (∀ n y, t.roles.get n = some y → k.toNat < n → m ≤ n) →
      exec (.nextKey ⟨some 1, some [k]⟩) s = .next (t.answered 0x04 [BitVec.ofNat 8 m])) ∧
    ((∀ n, k.toNat < n → t.roles.get n = none) →
      exec (.nextKey ⟨some 1, some [k]⟩) s = .next (t.turnedAway 0x04 .noSuch))) ∧
  (∀ (b : Foldback) (i : Ingredient) (rest : List Ingredient) (others : Table Foldback) (s t : State), s.settle = t →
    t.outputs = (1, b) :: others → b.live = i :: rest →
    exec (.nextKey ⟨some 12, some []⟩) s = .next (t.answered 0x04 ([1, 0] ++ putSource i.src)) ∧
    exec (.nextKey ⟨some 12, some [1, 0]⟩) s = .next (t.answered 0x04 ([1, 0] ++ putSource i.src))) ∧
  (∀ (o : Byte) (x y : Ingredient) (before after : List Ingredient) (s t : State), s.settle = t →
    between 1 24 o.toNat = true → x.src.wf = true → (t.output o.toNat).live = before ++ x :: y :: after →
    (∀ i ∈ before, i.src ≠ x.src) →
    exec (.nextKey ⟨some 12, some ([o, 0] ++ putSource x.src)⟩) s = .next (t.answered 0x04 ([o, 0] ++ putSource y.src)))

/-- READ_STATUS answers the status record and clears nothing: 25 bytes, the house state, the clock, the flags, the mask, the four
counters and the five gauges, the most significant byte of each first; CLEAR_EVENTS clears exactly the flags and counters its
masks name and answers the flags as they stood. IRQ is driven low while a flag is set whose mask bit is set. -/
def Obligations.StatusReadAndCleared : Prop :=
  (∀ s t : State, s.settle = t → exec (.readStatus (some [])) s = .next (t.answered 0x05 t.statusRecord)) ∧
  (∀ (b : Body) (m : BitVec 32) (c : BitVec 4) (s t : State), s.settle = t → readClear b = .ok (m, c) →
    exec (.clearEvents b) s =
      .next (State.answered 0x06 (toBE 4 t.status.events.toNat)
        { t with status :=
          { events := t.status.events &&& ~~~m, mask := t.status.mask,
            clipped := if c.getLsbD 0 then 0 else t.status.clipped,
            rampOverflow := if c.getLsbD 1 then 0 else t.status.rampOverflow,
            actionSkipped := if c.getLsbD 2 then 0 else t.status.actionSkipped,
            underrun := if c.getLsbD 3 then 0 else t.status.underrun } })) ∧
  (∀ t : State,
    let two (n : Nat) : Bytes := [BitVec.ofNat 8 (n / 2 ^ 8), BitVec.ofNat 8 n]
    let four (x : BitVec 32) : Bytes := [x.extractLsb' 24 8, x.extractLsb' 16 8, x.extractLsb' 8 8, x.extractLsb' 0 8]
    let house : Byte := match t.house.state with
      | .preset => 0
      | .running => 1
      | .stopped => 2
      | .evac => 3
      | .dark => 4
    let clock : Byte := (if t.clock.source = .internal then 1 else 0) + (if t.clock.wclk then 2 else 0)
    let held := (t.cues.map fun kc => kc.2.actions.length).sum
    t.statusRecord.length = 25 ∧ t.statusRecord =
      [house, clock] ++ four t.status.events ++ four t.status.mask ++ two t.status.clipped ++
        two t.status.rampOverflow ++ two t.status.actionSkipped ++ two t.status.underrun ++
        [BitVec.ofNat 8 t.ramps.length] ++ two t.cues.length ++ two (8192 - held) ++
        [BitVec.ofNat 8 (t.voices.countP fun kv => kv.2.state != .idle), BitVec.ofNat 8 t.relay.calls.length]) ∧
  (∀ s : State, s.irq = true ↔ ∃ n, n < 32 ∧ s.status.events.getLsbD n = true ∧ s.status.mask.getLsbD n = true)

/-! ### Reset and the sample clock -/

/-- The state after reset: the tables that are empty, the levels, foldback outputs, calls, settings and flags as R43, R136 and
R161 and section 11.5 give them, the records that exist at all times at rest, and every law held of each step. -/
def Obligations.ResetMeetsTheLaws : Prop :=
  (State.reset.roles = [] ∧ State.reset.performers = [] ∧ State.reset.packs = [] ∧ State.reset.ramps = [] ∧
    (∀ kf ∈ State.reset.protect, kf.2 = 0)) ∧
  (∀ kb ∈ State.reset.outputs, kb.2 =
    { label := [], master := 960 * 65536, announce := 960, duckDepth := 240, duck := 0, check := .normal, live := [],
      pending := none, clips := 0 }) ∧
  (State.reset.zones = [] ∧ State.reset.groups = [] ∧ State.reset.relay.calls = [] ∧ State.reset.relay.stage = none ∧
    State.reset.relay.lastId = 0 ∧ State.reset.relay.orderCount = 0) ∧
  State.reset.settings =
    { rfFloor := 4, qualifyCount := 8, reportTimeout := 2000, batteryThreshold := 30, protectDepth := 240,
      protectFade := 20, restoreFade := 500, window := 1, qualifyIndex := 2, freewheelLimit := 2000,
      clipDivisor := 1, editGlide := 50, stageDuckFade := 300, stageRestoreFade := 1500, defaultZone := 1,
      liveMaximum := 120, evacClip := none, evacPattern := none, evacGap := 2000, pttSource := 1,
      pttPriority := 1, pttTargets := [.all], divInt := 520, divFrac := 54613 } ∧
  (State.reset.house.state = .preset ∧ State.reset.house.held = false ∧ State.reset.flags = 0 ∧
    State.reset.cues = [] ∧ State.reset.clips = [] ∧ State.reset.patterns = [] ∧ State.reset.cue.latch = none ∧
    State.reset.cue.runs = [] ∧ State.reset.chase.state = .absent ∧ State.reset.status.events = 0 ∧
    State.reset.status.mask = 0 ∧ State.reset.response = responseFrame 0x00 0x00 []) ∧
  ((∀ kv ∈ State.reset.voices, kv.2.state = .idle) ∧ (∀ kg ∈ State.reset.gens, kg.2.use = .free) ∧
    (∀ kl ∈ State.reset.lines, kl.2.function = .none ∧ kl.2.enabled = false)) ∧
  State.reset.rampLaw = true ∧ State.reset.cueListLaw = true ∧ State.reset.statusLaw = true ∧
  State.reset.standing = true ∧ State.reset.lampLaw = true ∧ State.reset.runsLaw = true ∧ State.reset.castLaw = true ∧
  State.reset.recipeLaw = true ∧ State.reset.bufferLaw = true ∧ State.reset.heldMoveLaw = true ∧
  State.reset.occupancyLaw = true

/-- POWER_ON_RESET leaves the state after reset; the levels at the pins and the queue are not the part's to change (log entries 18
and 30). The sample clock: the selection at reset, loss and return of WCLK, and the switch that USE_EXTERNAL_CLOCK asks for. The
internal divider adds its fraction to the accumulator at the start of each period, and a carry makes the period one reference
period longer; the values written last are the values in use. -/
def Obligations.ResetAndClockEvents : Prop :=
  (∀ s : State, exec .powerOnReset s =
    .next { State.reset with
      lines := s.lines.mapRecords fun _ l => { Line.reset with pin := l.pin }, pending := s.pending }) ∧
  (∀ s t : State, s.settle = t →
    (∀ edge : Bool, t.clock.selecting = true → exec (.clockSelection edge) s =
      .next { t with clock := { t.clock with
        selecting := false, wclk := edge, source := if edge then .external else .internal } }) ∧
    (t.clock.wclk = true → t.clock.source = .external → exec .wclkLoss s =
      .next (State.raise .clockChanged
        { t with clock := { t.clock with wclk := false, switching := false, source := .internal, acc := 0 } })) ∧
    (t.clock.wclk = true → t.clock.source = .internal → exec .wclkLoss s =
      .next { t with clock := { t.clock with wclk := false, switching := false } }) ∧
    (t.clock.wclk = false → t.clock.selecting = false → exec .wclkReturn s =
      .next (State.raise .clockChanged { t with clock := { t.clock with wclk := true } })) ∧
    (t.clock.switching = true → exec .externalClockSwitch s =
      .next (State.raise .clockChanged { t with clock := { t.clock with switching := false, source := .external } })) ∧
    (t.clock.wclk = false → exec (.useExternalClock (some [])) s = .next (t.turnedAway 0x40 .wrongState)) ∧
    (t.clock.wclk = true → t.clock.source = .external → exec (.useExternalClock (some [])) s =
      .next (t.answered 0x40 [])) ∧
    (t.clock.wclk = true → t.clock.source = .internal → exec (.useExternalClock (some [])) s =
      .next (State.answered 0x40 [] { t with clock := { t.clock with switching := true } }))) ∧
  (∀ (inp : InPorts) (s t : State), s.settle = t → t.house.tickDiv < 48 →
    ∃ u, exec (.samplePeriod inp) s = .next u ∧
      (t.clock.source = .external → u.clock = t.clock) ∧
      (t.clock.source = .internal → t.clock.acc < 65536 → t.settings.divFrac < 65536 →
        u.clock.acc + 65536 * (u.clock.period - t.settings.divInt) = t.clock.acc + t.settings.divFrac ∧
        u.clock.acc < 65536 ∧
        (u.clock.period = t.settings.divInt ∨ u.clock.period = t.settings.divInt + 1) ∧
        u.clock.divInt = t.settings.divInt ∧ u.clock.divFrac = t.settings.divFrac ∧ u.clock.source = .internal))

/-! ### Levels, ramps and sums -/

/-- The scaled sample is the exact product over 2^(55 − e) rounded to the nearest integer, halves toward +∞; unity gain
passes a sample unchanged, code 599 gives about 248 at full scale, codes 1 to 23 give 0 for every 24-bit sample, and a
contribution may pass the 24-bit range. -/
def Obligations.ContributionRoundsToNearest : Prop :=
  (∀ (x : Int) (c : Nat), 1 ≤ c → c ≤ 1023 →
    13 ≤ 55 - c / 24 ∧
    2 * (x * multiplier c) - 2 ^ (55 - c / 24) < 2 * (contribution x c * 2 ^ (55 - c / 24)) ∧
    2 * (contribution x c * 2 ^ (55 - c / 24)) ≤ 2 * (x * multiplier c) + 2 ^ (55 - c / 24)) ∧
  (∀ x : Int, contribution x 960 = x) ∧
  248 ≤ contribution 8388607 599 ∧ contribution 8388607 599 ≤ 249 ∧ 8388607 < contribution 8388607 961 ∧
  (∀ (x : Int) (c : Nat), -8388608 ≤ x → x ≤ 8388607 → 1 ≤ c → c ≤ 23 → contribution x c = 0)

/-- The combined code: off where a level term is off or the sum is 0 or less, 1023 where it passes 1023, and else the sum
of the level terms less 960 for each but one and less the attenuations; always 0 to 1023. -/
def Obligations.CombinedCodeLaw : Prop :=
  ∀ levels attenuations : List Nat, levels ≠ [] →
    combine levels attenuations ≤ 1023 ∧
    (0 ∈ levels → combine levels attenuations = 0) ∧
    (0 ∉ levels →
      (levels.sum ≤ 960 * (levels.length - 1) + attenuations.sum → combine levels attenuations = 0) ∧
      (levels.sum > 1023 + 960 * (levels.length - 1) + attenuations.sum → combine levels attenuations = 1023) ∧
      (960 * (levels.length - 1) + attenuations.sum < levels.sum →
        levels.sum ≤ 1023 + 960 * (levels.length - 1) + attenuations.sum →
        combine levels attenuations + 960 * (levels.length - 1) + attenuations.sum = levels.sum) ∧
      combine (960 :: levels) attenuations = combine levels attenuations ∧
      combine levels (0 :: attenuations) = combine levels attenuations)

/-- The floor rule: a level element that moves to off is marked off at end and works toward the lesser of the floor and its level,
one that is off starts from the lesser of the floor and its target, and an attenuation has no floor. A ramp of N ticks moves
t q + floor (t r / N) units in t ticks, and after N ticks stands exactly on its target. -/
def Obligations.RampLandsOnItsTarget : Prop :=
  (∀ f0 n : Nat, levelGlide f0 0 n = (f0, Glide.between f0 (min (600 * 65536) f0) n true)) ∧
  (∀ c n : Nat, 0 < c → levelGlide 0 c n = (min 600 c * 65536, Glide.between (min 600 c * 65536) (c * 65536) n false)) ∧
  (∀ f0 c n : Nat, 0 < c → 0 < f0 → levelGlide f0 c n = (f0, Glide.between f0 (c * 65536) n false)) ∧
  (∀ f0 c n : Nat, attenuationGlide f0 c n = (f0, Glide.between f0 (c * 65536) n false)) ∧
  (∀ (f0 ft n : Nat) (off : Bool), 0 < n →
    let run (t : Nat) : Glide × Nat := (fun p => p.1.step p.2)^[t] (Glide.between f0 ft n off, f0)
    (∀ t ≤ n, f0 ≤ ft → (run t).2 = f0 + (t * ((ft - f0) / n) + t * ((ft - f0) % n) / n)) ∧
    (∀ t ≤ n, ft ≤ f0 → (run t).2 = f0 - (t * ((f0 - ft) / n) + t * ((f0 - ft) % n) / n)) ∧
    (run n).2 = ft ∧ (run n).1.left = 0 ∧ (run n).1.finish = if off then 0 else ft)

/-- A move settles by the first case that applies: a snap in DARK or with no fade, the replacement of the ramp on its element, a
new ramp in the lowest free entry, or a snap with RAMP_OVERFLOW. A ramp starts from the element's fine level by the floor rule,
frozen where its owner is CUE and the stop context is held. A move that reaches a voice with a pending playback is held there.
Setting one element moves no other. -/
def Obligations.MoveTakesItsCase : Prop :=
  (∀ (m : Move) (t : State),
    let code := if m.element.isAttenuation then min m.target 480 else m.target
    let start := if m.element.isAttenuation then attenuationGlide (t.fine m.element) code (min m.fade 600000)
      else levelGlide (t.fine m.element) code (min m.fade 600000)
    let snapped := State.complete m.action (State.setFine m.element (code * 65536) (t.dropRamp m.element))
    let started (e : Nat) : State := { State.setFine m.element start.1 t with
      ramps := t.ramps.put e (Ramp.mk m.element start.2 m.owner (m.owner == .cue && t.house.held) m.action) }
    (t.inDark = true ∨ m.fade = 0 → t.engineMove m = snapped) ∧
    (t.inDark = false → 0 < m.fade →
      (∀ e r, t.rampOn m.element = some (e, r) → t.engineMove m = started e) ∧
      (t.rampOn m.element = none →
        (∀ e, e < 128 → t.ramps.get e = none → (∀ k, k < e → t.ramps.get k ≠ none) → t.engineMove m = started e) ∧
        ((∀ e, e < 128 → t.ramps.get e ≠ none) → t.engineMove m =
          { snapped with status := { snapped.status with
              events := snapped.status.events ||| 2#32,
              rampOverflow := min (snapped.status.rampOverflow + 1) 65535 } }))) ∧
    (∀ v p, m.element = .voice v → (t.voice v).pending = some p → t.move m =
      { t with voices := t.voices.update v fun x => { x with pending := some { p with held := some m } } }) ∧
    ((∀ v, m.element = .voice v → (t.voice v).pending = none) → t.move m = t.engineMove m)) ∧
  (∀ (el el' : Element) (f : Nat) (t : State), el' ≠ el → (State.setFine el f t).fine el' = t.fine el')

/-! ### The sample period and the control tick -/

/-- The samples that a sample period forms outside DARK: each foldback output by its check state, from its ingredients with the
protect of their channels and the stage sample; each programme output from its CUE voices; each present zone from its feed and
its occupant. Each sum is limited to ±(2^23 − 1), and a limited one counts. Input channels 1 to 16 come from port A, 17 to 32 from
B, 33 to 48 from C and 49 to 64 from D, each port's slots 1 to 16 in turn. -/
def Obligations.SamplesFormed : Prop :=
  (∀ (inp : InPorts) (s t b : State) (voices : Table Sample), s.settle = t → t.inDark = false → t.house.tickDiv < 48 →
    t.dividePeriod.soundVoices = (b, voices) →
    let w := b.soundGens
    let h : Heard := { inp := inp, voices := voices, programme := t.mix.programme }
    ∃ u, exec (.samplePeriod inp) s = .next u ∧
      (∀ o x, w.outputs.get o = some x →
        u.mix.foldback.get o = some (sent (w.foldbackSum h (w.stageSample h) x)) ∧
        u.outputs.get o = some { x with clips := clipAfter x.clips (w.foldbackSum h (w.stageSample h) x) }) ∧
      (∀ p x, w.programmes.get p = some x →
        u.mix.programme.get p = some (sent (w.programmeSum h p)) ∧
        u.programmes.get p = some { x with clips := clipAfter x.clips (w.programmeSum h p) }) ∧
      (∀ z, 1 ≤ z → z ≤ 16 →
        (∀ x, w.zones.get z = some x → u.mix.zone.get z = some (sent (w.zoneSum h x)) ∧
          u.zones.get z = some { x with clips := clipAfter x.clips (w.zoneSum h x) }) ∧
        (w.zones.get z = none → u.mix.zone.get z = some 0)) ∧
      ((w.sums h).saturated = 0 → u.status = w.status) ∧
      (0 < (w.sums h).saturated → u.raised .clipped = true ∧
        u.status.clipped = min (w.status.clipped + (w.sums h).saturated) 65535)) ∧
  (∀ (inp : InPorts) (s u : State), exec (.samplePeriod inp) s = .next u →
    ∀ kv ∈ u.mix.foldback ++ u.mix.programme ++ u.mix.zone, -8388607 ≤ kv.2.toInt ∧ kv.2.toInt ≤ 8388607) ∧
  (∀ (x : Int) (n : Nat), (sent x).toInt = max (-8388607) (min x 8388607) ∧
    clipAfter n x = if 8388607 < x ∨ x < -8388607 then min (n + 1) 65535 else n) ∧
  (∀ (inp : InPorts) (i : Fin 16),
    inputSample inp (i + 1) = inp.a[i].toInt ∧ inputSample inp (i + 17) = inp.b[i].toInt ∧
    inputSample inp (i + 33) = inp.c[i].toInt ∧ inputSample inp (i + 49) = inp.d[i].toInt) ∧
  (∀ (s : State) (h : Heard) (stage : Int) (b : Foldback),
    (b.check = .mute → s.foldbackSum h stage b = 0) ∧
    (b.check = .tone → s.foldbackSum h stage b = contribution (s.gen 1).output (combine [audible b.master] [])) ∧
    (b.check = .normal → s.foldbackSum h stage b =
      (b.live.map (s.ingredientSum h b)).sum + contribution stage (combine [b.announce] []))) ∧
  (∀ (s : State) (h : Heard) (b : Foldback) (i : Ingredient),
    (∀ n, i.src = .input n → s.ingredientSum h b i = contribution (inputSample h.inp n)
      (combine [audible i.level, audible b.master] [audible (s.fine (.protect n)), audible b.duck])) ∧
    (∀ p, i.src = .programme p → s.ingredientSum h b i =
      contribution (h.prog p) (combine [audible i.level, audible b.master] [audible b.duck])) ∧
    (∀ k, i.src = .role k →
      let side (ch term : Nat) : Int := contribution (inputSample h.inp ch)
        (combine [audible i.level, audible b.master, audible term] [audible (s.fine (.protect ch)), audible b.duck])
      s.ingredientSum h b i =
        (match i.channel with
          | none => 0
          | some ch => side ch i.rebind.fine) +
        (match i.outgoing with
          | none => 0
          | some out => side out.channel out.term.fine))) ∧
  (∀ (s : State) (h : Heard) (p : Nat), s.programmeSum h p = (s.voices.keys.map (s.voiceContribution h p)).sum) ∧
  (∀ (s : State) (h : Heard) (p v k : Nat) (x : Voice) (c : Clip), s.voices.get v = some x → x.clip = some k →
    s.clips.get k = some c → x.owner = .cue → x.state ≠ .idle → s.voiceContribution h p v =
      if p ∈ x.route then contribution (h.voice v)
        (combine [audible x.level, c.trim, audible (s.fine (.programmeMaster p)), audible x.gate.term.fine] [])
      else 0) ∧
  (∀ (s : State) (h : Heard) (p v : Nat) (x : Voice), s.voices.get v = some x →
    x.state = .idle ∨ (∃ id, x.owner = .call id) ∧ x.state ≠ .closing → s.voiceContribution h p v = 0) ∧
  (∀ (s : State) (h : Heard) (z : Zone), s.zoneSum h z =
    (match z.feed with
      | .input n => contribution (inputSample h.inp n) (combine [audible z.level] [audible z.duck])
      | .programme p => contribution (h.prog p) (combine [audible z.level] [audible z.duck])
      | .none => 0) + s.callSum h z) ∧
  (∀ (s : State) (h : Heard) (z : Zone) (o : Occupant) (c : Call), s.call o.id = some c →
    (z.occupant = none → s.callSum h z = 0) ∧
    (z.occupant = some o →
      (c.phase = .message → s.callSum h z = contribution (s.messageSample h o.id c) (combine [z.callLevel] [])) ∧
      (∀ n g q, c.phase = .chime → c.gen = some n → s.gens.get n = some g → g.shadow = some q →
        s.callSum h z = contribution g.output (combine [q.level, z.callLevel] [])) ∧
      (c.phase ≠ .chime → c.phase ≠ .message → s.callSum h z = 0)) ∧
    (s.relay.stage = none → s.stageSample h = 0) ∧
    (s.relay.stage = some o →
      (c.phase = .message → s.stageSample h = s.messageSample h o.id c) ∧
      (∀ n g q, c.phase = .chime → c.gen = some n → s.gens.get n = some g → g.shadow = some q →
        s.stageSample h = contribution g.output (combine [q.level] [])) ∧
      (c.phase ≠ .chime → c.phase ≠ .message → s.stageSample h = 0)) ∧
    (∀ n, c.kind = .live n → s.messageSample h o.id c = inputSample h.inp n) ∧
    (∀ k v, c.kind = .clip k → c.voice = .held v →
      ((s.voice v).owner = .call o.id → (s.voice v).state = .playing → s.messageSample h o.id c = h.voice v) ∧
      ((s.voice v).state ≠ .playing → s.messageSample h o.id c = 0)) ∧
    (∀ k, c.kind = .clip k → c.voice = .waiting → s.messageSample h o.id c = 0))

/-- A sample period outside DARK sends the samples of the period before from the ports' slots, 0 in the slot of an absent zone,
counts one period toward the next tick, and moves no level, cue, call or timecode; of the host's records it changes the clip
counts alone. That a zone retired since its sample was formed is absent already is the model's choice (log entry 35). -/
def Obligations.SamplePeriodSendsTheLastPeriod : Prop :=
  ∀ (inp : InPorts) (s t : State), s.settle = t → t.inDark = false → t.house.tickDiv < 48 →
    ∃ u, exec (.samplePeriod inp) s = .next u ∧
      (∀ n, 1 ≤ n → n ≤ 16 →
        u.ports.x.get n = some ((t.mix.foldback.get n).getD 0) ∧
        u.ports.y.get n =
          some (if n ≤ 8 then (t.mix.foldback.get (n + 16)).getD 0 else (t.mix.programme.get (n - 8)).getD 0) ∧
        u.ports.z.get n = some (if t.zones.has n = true then (t.mix.zone.get n).getD 0 else 0)) ∧
      u.house = { t.house with tickDiv := t.house.tickDiv + 1 } ∧ u.ramps = t.ramps ∧ u.protect = t.protect ∧
      (∀ el, u.fine el = t.fine el) ∧
      u.cue = t.cue ∧ u.cues = t.cues ∧ u.flags = t.flags ∧ u.chase = t.chase ∧ u.relay = t.relay ∧
      u.roles = t.roles ∧ u.performers = t.performers ∧ u.packs = t.packs ∧ u.clips = t.clips ∧
      u.groups = t.groups ∧ u.patterns = t.patterns ∧ u.lines = t.lines ∧ u.settings = t.settings ∧
      u.response = t.response ∧
      (u.outputs.mapRecords fun _ b => { b with clips := 0 }) = (t.outputs.mapRecords fun _ b => { b with clips := 0 }) ∧
      (u.programmes.mapRecords fun _ p => { p with clips := 0 }) =
        (t.programmes.mapRecords fun _ p => { p with clips := 0 }) ∧
      (u.zones.mapRecords fun _ z => { z with clips := 0 }) = (t.zones.mapRecords fun _ z => { z with clips := 0 })

/-- In DARK a sample period sends 0 in every slot and forms nothing, so that only the clock's divider and the count of periods
move; and a control tick reaches the control lines alone. That a generator's output stays as it stood is the model's choice (log
entry 43). -/
def Obligations.DarkStandsStill : Prop :=
  (∀ (inp : InPorts) (s t : State), s.settle = t → t.inDark = true → t.house.tickDiv < 48 →
    exec (.samplePeriod inp) s =
      .next { t with
        clock := t.dividePeriod.clock,
        ports := { x := numbered 16 0, y := numbered 16 0, z := numbered 16 0 },
        mix := { foldback := numbered 24 0, programme := numbered 8 0, zone := numbered 16 0 },
        house := { t.house with tickDiv := t.house.tickDiv + 1 } }) ∧
  (∀ (pins : BitVec 12) (s t : State), s.settle = t → t.inDark = true →
    ∃ u, exec (.controlTick pins) s = .next u ∧
      u = { t with house := { t.house with tickDiv := 0 }, lines := u.lines, agenda := u.agenda })

/-- A control tick outside DARK: the dark gap falls by one, the flash is counted while the lamp is FLASH, the held time rises
while the stop context is held, the chase counts its ticks and its silence, the division into ticks starts again, and of the
host's records nothing changes but levels, the terms of gates and crossfades, the ages of packs, the times of runs and calls, and
the debounce of the lines. -/
def Obligations.ControlTickCounts : Prop :=
  ∀ (pins : BitVec 12) (s t : State), s.settle = t → t.inDark = false →
    ∃ u, exec (.controlTick pins) s = .next u ∧
      u.house = { t.house with
        tickDiv := 0, heldTime := if t.house.held then min (t.house.heldTime + 1) 86400000 else t.house.heldTime } ∧
      u.cue = { t.cue with
        darkGap := t.cue.darkGap - 1, runs := u.cue.runs,
        flashCount := if t.cue.lamp = .flash then t.cue.flashCount + 1 else t.cue.flashCount } ∧
      u.chase = { t.chase with
        tick := if t.chase.state = .absent then t.chase.tick else t.chase.tick + 1,
        silence := min (t.chase.silence + 1) 120,
        freewheel := if t.chase.state = .freewheel then min (t.chase.freewheel + 1) 10001 else t.chase.freewheel } ∧
      u.roles = t.roles ∧ u.performers = t.performers ∧ u.cues = t.cues ∧ u.flags = t.flags ∧ u.clips = t.clips ∧
      u.groups = t.groups ∧ u.patterns = t.patterns ∧ u.settings = t.settings ∧ u.response = t.response ∧
      u.clock = t.clock ∧ u.mix = t.mix ∧ u.ports = t.ports ∧ u.gens = t.gens ∧ u.status = t.status ∧
      u.voiceUnit = t.voiceUnit ∧ u.relay = { t.relay with calls := u.relay.calls } ∧
      (u.packs.mapRecords fun _ x => { x with age := 0 }) = (t.packs.mapRecords fun _ x => { x with age := 0 }) ∧
      (u.programmes.mapRecords fun _ x => { x with master := 0 }) =
        (t.programmes.mapRecords fun _ x => { x with master := 0 }) ∧
      (u.zones.mapRecords fun _ x => { x with level := 0, duck := 0 }) =
        (t.zones.mapRecords fun _ x => { x with level := 0, duck := 0 }) ∧
      (u.outputs.mapRecords fun _ x => { x with master := 0, duck := 0, live := [] }) =
        (t.outputs.mapRecords fun _ x => { x with master := 0, duck := 0, live := [] }) ∧
      (u.voices.mapRecords fun _ x => { x with level := 0, gate := Gate.atOpen }) =
        (t.voices.mapRecords fun _ x => { x with level := 0, gate := Gate.atOpen }) ∧
      (u.lines.mapRecords fun _ x => { x with pin := false, active := false, count := 0 }) =
        (t.lines.mapRecords fun _ x => { x with pin := false, active := false, count := 0 }) ∧
      (u.cue.runs.mapRecords fun _ x => { x with elapsed := 0 }) =
        (t.cue.runs.mapRecords fun _ x => { x with elapsed := 0 }) ∧
      (u.relay.calls.mapRecords fun _ x => { x with timer := 0, liveTime := 0 }) =
        (t.relay.calls.mapRecords fun _ x => { x with timer := 0, liveTime := 0 }) ∧
      (t.standing = true →
        (u.outputs.map fun kb => kb.2.live.map fun i => (i.src, i.channel)) =
          (t.outputs.map fun kb => kb.2.live.map fun i => (i.src, i.channel)))

/-- One control tick outside DARK, record by record: a ramp steps, unless it is frozen, and completes on its last step; gates and
the crossfades of live ingredients step, a rebind term that has run its ticks coming to rest where it was sent and an outgoing one
making CROSSFADE_END due; the runs' elapsed counts rise unless the stop context is held; calls count their timers and live times;
packs age. What reaches its end is due as an event: the dark gap, a half of the flash, and of the chase the frame advance at a tick
count of 40, the silence at 120, the freewheel past its limit and, all four conditions met, its GO. In every house state a line is
debounced: a change stands after 10 ticks in a row. A built-in ramp of n ticks has run them at its nth, not before. -/
def Obligations.TickSteps : Prop :=
  (∀ (pins : BitVec 12) (s t : State), s.settle = t → t.inDark = false → t.standing = true →
    ∃ u, exec (.controlTick pins) s = .next u ∧
      (t.rampLaw = true → ∀ e r, t.ramps.get e = some r → (∀ f, (State.setFine r.element f t).fine r.element = f) →
        (r.frozen = true ∨ r.glide.left = 0 → u.ramps.get e = some r ∧ u.fine r.element = t.fine r.element) ∧
        (r.frozen = false → 0 < r.glide.left →
          u.ramps.get e = some { r with glide := (r.glide.step (t.fine r.element)).1 } ∧
          u.fine r.element = (r.glide.step (t.fine r.element)).2 ∧
          (r.glide.left = 1 → .rampComplete e ∈ u.agenda))) ∧
      (∀ el, t.rampOn el = none → u.fine el = t.fine el) ∧
      (t.cue.darkGap = 1 → .darkGapEnd ∈ u.agenda) ∧
      (t.cue.lamp = .flash → 250 ≤ t.cue.flashCount + 1 → .flashPhase ∈ u.agenda) ∧
      (∀ v x, t.voices.get v = some x →
        (u.voices.get v).map Voice.gate = some { x.gate with term := x.gate.term.step } ∧
        (x.gate.state = .closing → x.gate.term.step.due = true → .gateClosed v ∈ u.agenda) ∧
        (x.gate.state = .opening → x.gate.term.step.due = true → .gateOpened v ∈ u.agenda)) ∧
      (∀ (o : Nat) (b : Foldback) (n : Nat) (i : Ingredient), t.outputs.get o = some b → b.live[n]? = some i →
        ∃ c j, u.outputs.get o = some c ∧ c.live[n]? = some j ∧ c.live.length = b.live.length ∧
          j = { i with
            level := j.level,
            rebind := if i.rebind.step.due then i.rebind.step.finish else i.rebind.step,
            outgoing := i.outgoing.map fun (x : Outgoing) => { x with term := x.term.step } } ∧
          ∀ x, i.outgoing = some x → x.term.step.due = true → .crossfadeEnd o i.src ∈ u.agenda) ∧
      (t.chase.state ≠ .absent → 40 ≤ t.chase.tick + 1 → .chaseFrameAdvance ∈ u.agenda) ∧
      (t.chase.state = .locked ∨ t.chase.state = .acquiring → 120 ≤ t.chase.silence + 1 → .chaseSilence ∈ u.agenda) ∧
      (t.chase.state = .freewheel → t.settings.freewheelLimit < min (t.chase.freewheel + 1) 10001 →
        .freewheelExpiry ∈ u.agenda) ∧
      (∀ l f, t.cue.latch = some l → l.armed = true → l.cue.trigger = .timecode f → f ≤ t.chase.frame →
        t.chase.state = .locked ∨ t.chase.state = .freewheel → t.house.state = .preset ∨ t.house.state = .running →
        .timecodeGo ∈ u.agenda) ∧
      (t.house.held = true → u.cue.runs = t.cue.runs) ∧
      (t.house.held = false → t.runsLaw = true → ∀ n x, t.cue.runs.get n = some x →
        u.cue.runs.get n = some { x with elapsed := min (x.elapsed + 1) 60000 } ∧
        ((∃ a ∈ x.actions, a.executed = false ∧ a.action.delay ≤ min (x.elapsed + 1) 60000) →
          .actionDue n ∈ u.agenda) ∧
        (∀ w, x.follow = .waiting w → max w 1 ≤ min (x.elapsed + 1) 60000 → .followExpiry n ∈ u.agenda)) ∧
      (t.relay.calls.sorted = true → ∀ id c, t.call id = some c →
        let timer := if c.phase = .opening ∨ c.phase = .closing ∨ c.phase = .gap then c.timer - 1 else c.timer
        let live := if c.isLive then min (c.liveTime + 1) 610001 else c.liveTime
        u.call id = some { c with timer := timer, liveTime := live } ∧
        (c.phase = .opening → timer = 0 → .openingEnd id ∈ u.agenda) ∧
        (c.phase = .closing → timer = 0 → .closingEnd id ∈ u.agenda) ∧
        (c.phase = .gap → timer = 0 → .gapEnd id ∈ u.agenda) ∧
        (c.isLive = true → c.cut = false → t.settings.liveMaximum * 1000 < live → .liveMaximum id ∈ u.agenda)) ∧
      (t.packs.sorted = true → ∀ p k, t.packs.get p = some k →
        u.packs.get p = some { k with age := min (k.age + 1) 10000 } ∧
        (k.health = .qualifying ∨ k.health = .good → t.settings.reportTimeout ≤ min (k.age + 1) 10000 →
          .packTimeout p ∈ u.agenda))) ∧
  (∀ (pins : BitVec 12) (s t : State), s.settle = t → t.standing = true →
    ∃ u, exec (.controlTick pins) s = .next u ∧
      ∀ l x, t.lines.get l = some x →
        let pin := pins.getLsbD (l - 1)
        (x.live = false → u.lines.get l = some { x with pin := pin }) ∧
        (x.live = true →
          (x.pinActive pin = x.active → u.lines.get l = some { x with pin := pin, count := 0 }) ∧
          (x.pinActive pin ≠ x.active →
            (x.count + 1 < 10 → u.lines.get l = some { x with pin := pin, count := x.count + 1 }) ∧
            (10 ≤ x.count + 1 →
              (∀ e, t.reports x.function = true → edgeEvent x.function (!x.active) l = some e →
                u.lines.get l = some { x with pin := pin, count := 10 } ∧ e ∈ u.agenda) ∧
              (t.reports x.function = false ∨ edgeEvent x.function (!x.active) l = none →
                u.lines.get l = some { x with pin := pin, active := !x.active, count := 0 }))))) ∧
  (∀ f code n k, k ≤ n →
    let x : Term := Term.step^[k] ⟨(levelGlide f code n).1, some (levelGlide f code n).2⟩
    (x.due = true ↔ k = n) ∧ x.finish = ⟨code * 65536, none⟩)

/-- A voice in one sample period outside DARK. One that is PLAYING, or CLOSING for a steal, advances its playback: primed or with
a first refill in its buffer, it sounds the head of the buffer and moves on by one place, over the loop and into CLIP_END at the
clip's length; with an empty buffer it sounds 0, moves on and counts UNDERRUN; before its first refill it sounds 0 and holds. One
that is PAUSED, or CLOSING for an end, or CUE-owned and CLOSING for a steal while the stop context is held, holds its place and
sounds its tail from there until its gate is CLOSED, and 0 from then on or when all of the tail has been sounded. A voice that
holds no clip sounds 0 and stands. A voice left with 128 samples or fewer, no refill of its own asked for or in flight and
something left to fetch asks for one, and an idle port grants it next. That one CLOSING for a steal counts UNDERRUN as a PLAYING
voice does, that a voice whose buffer first fills while it is parked becomes primed, that a parked voice or one CLOSING for an end
sounds 0 where its buffer holds nothing, and that one whose old clip has ended stands and sounds 0 are the model's reading (log
entry 32). -/
def Obligations.PlaybackAdvances : Prop :=
  (∀ (inp : InPorts) (v k : Nat) (x : Voice) (c : Clip) (s t : State), s.settle = t → t.inDark = false →
    t.house.tickDiv < 48 → t.standing = true → t.voices.get v = some x → x.clip = some k → t.clips.get k = some c →
    let parked : Prop := x.owner = .cue ∧ t.house.held = true
    let advances : Prop := x.state = .playing ∨ x.state = .closing ∧ x.cause = some .steal ∧ ¬ parked
    let holds : Prop :=
      x.state = .paused ∨ x.state = .closing ∧ (x.cause = some .ending ∨ x.cause = some .steal ∧ parked)
    ∃ u y, exec (.samplePeriod inp) s = .next u ∧ u.voices.get v = some y ∧
      y = { x with
        position := y.position, loops := y.loops, primed := y.primed, buffer := y.buffer, cursor := y.cursor, tail := y.tail,
        requested := y.requested } ∧
      (x.state ≠ .idle → y.primed = (x.primed || !x.buffer.isEmpty)) ∧
      (advances → x.primed = true ∨ x.buffer ≠ [] →
        let place := c.advance ⟨x.position, x.loops⟩
        y.position = place.index ∧ y.loops = place.loops ∧ y.buffer = x.buffer.tail ∧ y.tail = x.tail ∧
        (c.length ≤ place.index → .clipEnd v ∈ u.agenda) ∧
        (∀ b rest, x.buffer = b :: rest → t.dividePeriod.soundVoices.2.get v = some b ∧ y.cursor = x.cursor) ∧
        (x.buffer = [] → t.dividePeriod.soundVoices.2.get v = some 0 ∧ u.raised .underrun = true ∧
          min (t.status.underrun + 1) 65535 ≤ u.status.underrun ∧
          (t.voiceUnit.refill = none → y.cursor = place))) ∧
      (advances → x.primed = false → x.buffer = [] →
        y.position = x.position ∧ y.loops = x.loops ∧ y.buffer = [] ∧ y.cursor = x.cursor ∧ y.tail = x.tail ∧
        t.dividePeriod.soundVoices.2.get v = some 0) ∧
      (holds → y.position = x.position ∧ y.loops = x.loops ∧ y.buffer = x.buffer ∧ y.cursor = x.cursor ∧
        (x.gate.state = .closed → t.dividePeriod.soundVoices.2.get v = some 0 ∧ y.tail = x.tail) ∧
        (x.gate.state ≠ .closed → t.dividePeriod.soundVoices.2.get v = some ((x.buffer[x.tail]?).getD 0) ∧
          y.tail = if x.tail < x.buffer.length then x.tail + 1 else x.tail)) ∧
      let asks : Prop := x.state ≠ .idle ∧ ¬ (x.state = .closing ∧ x.cause = some .steal ∧ x.gate.state = .closed) ∧
        y.buffer.length ≤ 128 ∧ x.requested = false ∧
        (∀ r, t.voiceUnit.refill = some r → r.voice = v → r.disowned = true) ∧ y.cursor.index < c.length
      (asks → y.requested = true ∧ (t.voiceUnit.refill = none → .refillGrant ∈ u.agenda)) ∧
      (¬ asks → y.requested = x.requested)) ∧
  (∀ (inp : InPorts) (v : Nat) (x : Voice) (s t : State), s.settle = t → t.inDark = false → t.house.tickDiv < 48 →
    t.standing = true → t.voices.get v = some x → x.clip = none → x.buffer = [] →
    t.dividePeriod.soundVoices.2.get v = some 0 ∧
    ∃ u, exec (.samplePeriod inp) s = .next u ∧ u.voices.get v = some x) ∧
  (∀ (c : Clip) (i : Nat) (r : Loops),
    (c.loop = none → c.advance ⟨i, r⟩ = ⟨i + 1, r⟩) ∧
    (∀ first last, c.loop = some (first, last) →
      (i + 1 ≠ last → c.advance ⟨i, r⟩ = ⟨i + 1, r⟩) ∧
      (i + 1 = last →
        (r = .endless → c.advance ⟨i, r⟩ = ⟨first, .endless⟩) ∧
        (∀ n, r = .count n → 1 < n → c.advance ⟨i, r⟩ = ⟨first, .count (n - 1)⟩) ∧
        (∀ n, r = .count n → n ≤ 1 → c.advance ⟨i, r⟩ = ⟨last, .done⟩) ∧
        (r = .none ∨ r = .done → c.advance ⟨i, r⟩ = ⟨last, r⟩))))

/-! ### Internal events -/

/-- RAMP_COMPLETE: the element at its fine target, or off, the entry freed, and then the completion action. CROSSFADE_END: the
outgoing channel of the ingredient is cleared, and nothing else changes. -/
def Obligations.RampCompleteSettlesItsElement : Prop :=
  (∀ (e : Nat) (r : Ramp) (t : State), t.ramps.get e = some r → r.glide.left = 0 →
    exec (.rampComplete e) (t.due (.rampComplete e)) =
      .next ((State.setFine r.element (if r.glide.offAtEnd then 0 else r.glide.target)
        { t with ramps := t.ramps.erase e }).complete r.action)) ∧
  (∀ (v order : Nat) (t : State), t.complete (some (.stopVoice v order)) =
    if (t.voice v).startOrder = order ∧ (t.voice v).state ≠ .idle then t.endVoice v else t) ∧
  (∀ (o : Nat) (src : Source) (t : State), t.complete (some (.removeIngredient o src)) =
    { t.dropRamp (.ingredient o src) with
      outputs := t.outputs.update o fun b => { b with live := b.live.filter (·.src != src) } }) ∧
  (∀ (o : Nat) (src : Source) (t : State),
    exec (.crossfadeEnd o src) (t.due (.crossfadeEnd o src)) =
      .next { t with outputs := t.outputs.update o fun b => { b with live := b.live.map fun i =>
        if i.src = src ∧ (i.outgoing.map fun (x : Outgoing) => x.term.due) = some true then { i with outgoing := none }
        else i } })

/-- A close request starts 10 ticks toward off from a gate OPEN or OPENING, and an open request 10 ticks toward 960 from a gate
CLOSED or CLOSING, each from the gate's present level by the floor rule; other gates ignore them. GATE_CLOSED and GATE_OPENED:
the gate comes to rest, off or at 960; a PAUSED voice keeps its place, a voice closing for an end becomes IDLE, and a stolen voice
begins its pending playback unless it waits for RESUME. -/
def Obligations.GateEndsSettleTheVoice : Prop :=
  (∀ g : Gate,
    (g.state = .opened ∨ g.state = .opening →
      g.close = ⟨.closing, ⟨(levelGlide g.term.fine 0 10).1, some (levelGlide g.term.fine 0 10).2⟩⟩ ∧ g.open = g) ∧
    (g.state = .closed ∨ g.state = .closing →
      g.open = ⟨.opening, ⟨(levelGlide g.term.fine 960 10).1, some (levelGlide g.term.fine 960 10).2⟩⟩ ∧
      g.close = g)) ∧
  (∀ (v : Nat) (x : Voice) (t : State), t.voices.get v = some x →
    (x.gate.state = .closing → x.gate.term.due = true →
      (x.state = .paused → exec (.gateClosed v) (t.due (.gateClosed v)) =
        .next { t with voices := t.voices.update v fun y => { y with gate := ⟨.closed, ⟨0, none⟩⟩ } }) ∧
      (x.state = .closing → x.cause = some .ending ∨ x.cause = some .steal ∧ x.pending = none →
        exec (.gateClosed v) (t.due (.gateClosed v)) =
          .next (State.endVoice v
            { t with voices := t.voices.update v fun y => { y with gate := ⟨.closed, ⟨0, none⟩⟩ } })) ∧
      (x.state = .closing → x.cause = some .steal → x.pending ≠ none →
        exec (.gateClosed v) (t.due (.gateClosed v)) =
          .next (if x.owner = .cue ∧ t.house.held = true then
            { t with voices := t.voices.update v fun y => { y with gate := ⟨.closed, ⟨0, none⟩⟩ } }
          else State.beginPending v
            { t with voices := t.voices.update v fun y => { y with gate := ⟨.closed, ⟨0, none⟩⟩ } }))) ∧
    (x.gate.state = .opening → x.gate.term.due = true →
      exec (.gateOpened v) (t.due (.gateOpened v)) =
        .next { t with voices := t.voices.update v fun y => { y with gate := ⟨.opened, ⟨960 * 65536, none⟩⟩ } }))

/-- CLIP_END: under a steal's close the old clip is held no more; otherwise the playback ends, and a call's message is delivered.
A playback that ends leaves its voice IDLE with its owner, tag, clip, route, pending playback, closing cause and primed mark
cleared, its buffer empty, its refill in flight disowned, its level off with no ramp, and its gate OPEN; that its request for a
refill goes with it is the model's reading (log entry 20). The voice is given at once to the waiting call of highest priority, and
of the earliest creation among equals, whose request leaves the list. -/
def Obligations.ClipEndEndsThePlayback : Prop :=
  (∀ (v k : Nat) (x : Voice) (c : Clip) (t : State),
    t.voices.get v = some x → x.state ≠ .idle → x.clip = some k → t.clips.get k = some c → c.length ≤ x.position →
    (x.state = .closing → x.cause = some .steal → exec (.clipEnd v) (t.due (.clipEnd v)) =
      .next ((t.disown v).setVoice v fun y => { y with clip := none, buffer := [], requested := false })) ∧
    (¬ (x.state = .closing ∧ x.cause = some .steal) →
      (x.owner = .cue → exec (.clipEnd v) (t.due (.clipEnd v)) = .next (t.endVoice v)) ∧
      (∀ id, x.owner = .call id → exec (.clipEnd v) (t.due (.clipEnd v)) = .next ((t.endVoice v).delivered id)))) ∧
  (∀ (v : Nat) (t : State),
    let freed : State := State.dropRamp (.voice v) { t with
      voiceUnit := { t.voiceUnit with
        refill := t.voiceUnit.refill.map fun r => if r.voice = v then { r with disowned := true } else r },
      voices := t.voices.update v fun y => { y with
        state := .idle, owner := .none, tag := none, clip := none, route := [], pending := none, cause := none,
        primed := false, buffer := [], level := 0, gate := ⟨.opened, ⟨960 * 65536, none⟩⟩, tail := 0,
        requested := false } }
    ((∀ id ∈ t.voiceUnit.waiting, t.call id = none) → t.endVoice v = freed) ∧
    (∀ id c k, id ∈ t.voiceUnit.waiting → t.call id = some c → c.kind = .clip (some k) →
      (∀ other d, other ∈ t.voiceUnit.waiting → other ≠ id → t.call other = some d →
        d.priority < c.priority ∨ d.priority = c.priority ∧ c.order < d.order) →
      t.endVoice v = State.giveVoice v id k
        { freed with voiceUnit := { freed.voiceUnit with waiting := t.voiceUnit.waiting.erase id } }))

/-- REFILL_GRANT: an idle port outside DARK grants the first request in the order that starts after the last voice served and
comes round to it; the fetch cursor moves past at most 128 samples in playback order, fewer where the end comes first, and no
other voice changes. Each unbroken run is one read of the flash: the command 13 hexadecimal, a 32-bit address with its top four
bits 0, and 24 bits a sample. A voice requests a refill with 128 samples or fewer in its buffer, no request or refill of its own
and something left to fetch, and a stolen one until its gate closes. That an address past 28 bits is sent as its low 28 bits, and
that a request made before a stolen voice's gate closed stands, are the model's choices (log entries 36 and 41). -/
def Obligations.RefillGrantServesInTurn : Prop :=
  (∀ (i v k : Nat) (x : Voice) (c : Clip) (t : State),
    t.voiceUnit.refill = none → t.inDark = false → i < 16 → v = (t.voiceUnit.lastServed + i) % 16 + 1 →
    x.requested = true → (∀ j, j < i → (t.voice ((t.voiceUnit.lastServed + j) % 16 + 1)).requested = false) →
    t.voices.get v = some x → x.clip = some k → t.clips.get k = some c → x.cursor.index < c.length →
    ∃ u, exec .refillGrant (t.due .refillGrant) = .next u ∧
      u.voices.get v = some { x with requested := false, cursor := (c.plan 128 x.cursor).2 } ∧
      (∀ w, w ≠ v → u.voices.get w = t.voices.get w) ∧
      u.voiceUnit.refill = some
        { voice := v, addresses := (c.plan 128 x.cursor).1.map fun i => (c.start + 3 * i) % 2 ^ 28,
          reads := c.reads (c.plan 128 x.cursor).1, disowned := false,
          keep := (c.plan 128 x.cursor).1.length, passed := 0,
          clocks := 40 * (c.reads (c.plan 128 x.cursor).1).length + 24 * (c.plan 128 x.cursor).1.length,
          divisor := t.settings.clipDivisor } ∧
      (∀ bs ∈ u.flashOut, bs.length = 5 ∧ bs.head? = some 0x13 ∧ (bs.getD 1 0).toNat < 16) ∧
      u = { t with voices := u.voices, voiceUnit := { t.voiceUnit with refill := u.voiceUnit.refill } }) ∧
  (∀ (c : Clip) (place : Cursor), (c.plan 128 place).1.length ≤ 128 ∧
    (place.index < c.length → (c.plan 128 place).1.head? = some place.index) ∧
    (∀ i ∈ (c.plan 128 place).1, i < c.length) ∧
    (∀ j i, (c.plan 128 place).1[j]? = some i → i = (c.advance^[j] place).index) ∧
    (c.plan 128 place).2 = c.advance^[(c.plan 128 place).1.length] place ∧
    ((c.plan 128 place).1.length < 128 → c.length ≤ (c.plan 128 place).2.index)) ∧
  (∀ (v k : Nat) (x : Voice) (c : Clip) (t : State), t.voices.get v = some x → x.clip = some k → t.clips.get k = some c →
    let asks : Prop := x.state ≠ .idle ∧ ¬ (x.state = .closing ∧ x.cause = some .steal ∧ x.gate.state = .closed) ∧
      x.buffer.length ≤ 128 ∧ x.requested = false ∧
      (∀ r, t.voiceUnit.refill = some r → r.voice = v → r.disowned = true) ∧ x.cursor.index < c.length
    (asks → t.requestRefill v = State.enqueueIf (t.voiceUnit.refill.isNone && !t.inDark) .refillGrant
      { t with voices := t.voices.update v fun y => { y with requested := true } }) ∧
    (¬ asks → t.requestRefill v = t)) ∧
  (∀ (c : Clip) (first n : Nat), c.reads ((List.range (n + 1)).map (first + ·)) =
    [{ command := 0x13, address := BitVec.ofNat 32 ((c.start + 3 * first) % 2 ^ 28), samples := n + 1 }]) ∧
  (∀ (c : Clip) (a b : Nat) (rest : List Nat), b ≠ a + 1 → c.reads (a :: b :: rest) =
    { command := 0x13, address := BitVec.ofNat 32 ((c.start + 3 * a) % 2 ^ 28), samples := 1 } :: c.reads (b :: rest))

/-- REFILL_COMPLETE: the samples the flash returned join the buffer of the voice they were fetched for, and the port is idle with
that voice the last served; those of a disowned refill are dropped, and no other voice changes. That voice asks again if it has
128 samples or fewer and something left to fetch, and where any voice then asks the next grant is due at once. Each sample is three
bytes, the most significant first, read as a signed number of 24 bits. -/
def Obligations.RefillCompleteFillsTheBuffer : Prop :=
  (∀ (data : Bytes) (r : Refill) (x : Voice) (s t : State), s.settle = t → t.voiceUnit.refill = some r →
    t.voices.get r.voice = some x →
    ∃ u y, exec (.refillComplete data) s = .next u ∧ u.voices.get r.voice = some y ∧
      y.buffer = x.buffer ++
        (if r.disowned then [] else ((refillSamples r.addresses data).take r.keep).drop r.passed) ∧
      y = { x with buffer := y.buffer, requested := y.requested } ∧
      (∀ k c, x.clip = some k → t.clips.get k = some c →
        let asks : Prop := x.state ≠ .idle ∧ ¬ (x.state = .closing ∧ x.cause = some .steal ∧ x.gate.state = .closed) ∧
          y.buffer.length ≤ 128 ∧ x.cursor.index < c.length
        (asks → y.requested = true) ∧ (¬ asks → y.requested = x.requested)) ∧
      (∀ w, w ≠ r.voice → u.voices.get w = t.voices.get w) ∧
      (∀ w z, 1 ≤ w → w ≤ 16 → u.voices.get w = some z → z.requested = true → t.inDark = false → .refillGrant ∈ u.agenda) ∧
      u.voiceUnit = { t.voiceUnit with refill := none, lastServed := r.voice } ∧
      u = { t with voices := u.voices, voiceUnit := u.voiceUnit, agenda := u.agenda }) ∧
  (∀ (addresses : List Nat) (data : Bytes), (refillSamples addresses data).length = addresses.length ∧
    ∀ n b0 b1 b2, n < addresses.length → data[3 * n]? = some b0 → data[3 * n + 1]? = some b1 →
      data[3 * n + 2]? = some b2 → ∃ x, (refillSamples addresses data)[n]? = some x ∧
        let whole : Int := 65536 * b0.toNat + 256 * b1.toNat + b2.toNat
        x.toInt = if b0.toNat < 128 then whole else whole - 2 ^ 24)

/-- PACK_TIMEOUT: a QUALIFYING or GOOD pack at its report timeout is LOST with progress 0, PACK_CHANGED is raised, its channel's
protection moves to the depth, and the auto-swap is considered, in that order: a performer with auto-swap swaps a GOOD spare in.
In DARK no pack changes. -/
def Obligations.PackTimeoutLosesThePack : Prop :=
  (∀ (p : Nat) (k : Pack) (t : State), t.packs.get p = some k → t.inDark = false →
    t.settings.reportTimeout ≤ k.age → (k.health = .qualifying ∨ k.health = .good) →
    exec (.packTimeout p) (t.due (.packTimeout p)) =
      .next ((State.move
        { element := .protect k.channel, target := t.settings.protectDepth, fade := t.settings.protectFade,
          owner := .protect, action := none }
        (State.raise .packChanged
          { t with packs := t.packs.update p fun x => { x with health := .lost, progress := 0 } })).autoSwap p)) ∧
  (∀ (p : Nat) (t : State), t.inDark = true → exec (.packTimeout p) (t.due (.packTimeout p)) = .next t) ∧
  (∀ (p k : Nat) (f : Performer) (t : State), t.namedBy p = some (k, false) → t.performers.get k = some f →
    (∀ x spare, f.spare = some x → t.packs.get x = some spare → f.autoSwap = true → spare.health = .good →
      t.autoSwap p = State.rebindAll (State.raise .swapped
        { t with performers := t.performers.update k fun y => { y with primary := y.spare, spare := y.primary } })) ∧
    (f.autoSwap = false ∨ f.spare = none → t.autoSwap p = t))

/-- ACTION_DUE: with the stop context not held, the actions whose delay has been reached and that have not yet executed do so
in list order; FOLLOW_EXPIRY: the follow is expired and a GO is taken. -/
def Obligations.RunEventsActOnTheRun : Prop :=
  ∀ (n : Nat) (x : Run) (t : State), t.cue.runs.get n = some x → t.house.held = false →
    ((∃ a ∈ x.actions, a.executed = false ∧ a.action.delay ≤ x.elapsed) →
      exec (.actionDue n) (t.due (.actionDue n)) =
        .next (((((x.actions.filter fun a => !a.executed && a.action.delay ≤ x.elapsed).map RunAction.action).foldl
          State.execute
          (t.setRun n fun y => { y with actions := y.actions.map fun a =>
            if a.action.delay ≤ x.elapsed then { a with executed := true } else a }))).freeIfFinished n)) ∧
    ((∀ a ∈ x.actions, a.executed = true ∨ x.elapsed < a.action.delay) →
      (∃ w, x.follow = .waiting w ∧ max w 1 ≤ x.elapsed) →
      exec (.followExpiry n) (t.due (.followExpiry n)) =
        .next (((t.setRun n fun y => { y with follow := .expired }).freeIfFinished n).takeGo.1.relamp))

/-- What each action does as it executes, by its kind. A skipped action raises ACTION_SKIPPED, counts it and changes nothing else.
Every move has owner CUE. PLAY takes the lowest IDLE voice, or steals the CUE-owned one with the lowest start order, which then
plays when its gate has closed; the tag goes to that voice alone. VOICE_FADE, VOICE_STOP and VOICE_RELEASE act on the voice that
holds the tag: a release plays on past the next loop end, the buffer, the tail and the refill in flight cut back there. INGREDIENT
moves a live ingredient, or has one join at off; MASTER moves a master or a present zone's feed level; FLAG sets or clears one
flag; CALL places a call, and is skipped wherever PLACE_CALL would be refused. A playback that begins stands at sample 0,
unprimed, at off under an OPEN gate, with what it had in flight disowned and any ramp on its level gone; it then takes its held
move and requests its refill. That the start order wraps at 2^48 is the model's reading (log entry 29); that no request for a
refill is made at the release itself is its choice (log entry 48). -/
def Obligations.ActionsActOnTheShow : Prop :=
  ∀ (t : State) (delay : Nat),
    let does (kind : ActionKind) (u : State) : Prop := t.execute { kind := kind, delay := delay } = u
    let skipped : State := { t with status := { t.status with
      events := t.status.events ||| 16#32, actionSkipped := min (t.status.actionSkipped + 1) 65535 } }
    let cue (el : Element) (level fade : Nat) (action : Option Completion) : Move :=
      { element := el, target := level, fade := fade, owner := .cue, action := action }
    (∀ k tag level route fade loops,
      let play : ActionKind := .play k tag level route fade loops
      (t.clips.get k = none → does play skipped) ∧
      ((∀ kv ∈ t.voices, kv.2.state ≠ .idle ∧ kv.2.owner ≠ .cue) → does play skipped) ∧
      (∀ c v x, t.standing = true → t.clips.get k = some c → t.voices.get v = some x →
        let count := loops.getD c.loops
        let order := (t.voiceUnit.startOrder + 1) % 2 ^ 48
        let p : PendingPlay :=
          { clip := k, route := route, held := some (cue (.voice v) level fade none), owner := .cue,
            loops := if c.loop = none then .none else if count = 0 then .endless else .count count }
        let given (f : Voice → Voice) : State := { t with
          voiceUnit := { t.voiceUnit with startOrder := order },
          voices := t.voices.mapRecords fun w y =>
            if w = v then f { y with startOrder := order, tag := some tag, pending := some p }
            else if y.tag = some tag then { y with tag := none } else y }
        (x.state = .idle → (∀ w y, w < v → t.voices.get w = some y → y.state ≠ .idle) →
          does play ((given id).beginPending v)) ∧
        ((∀ w y, t.voices.get w = some y → y.state ≠ .idle) → x.owner = .cue →
          (∀ w y, w ≠ v → t.voices.get w = some y → y.owner = .cue → x.startOrder < y.startOrder) →
          let stolen : State := State.raise .voiceStolen
            (given fun y => { y with state := .closing, cause := some .steal, gate := y.gate.close })
          (x.gate.state ≠ .closed ∨ t.house.held = true → does play stolen) ∧
          (x.gate.state = .closed → t.house.held = false → does play (stolen.beginPending v))))) ∧
    (∀ v x p, t.voices.get v = some x → x.pending = some p →
      let ready := State.dropRamp (.voice v) { t with
        voiceUnit := { t.voiceUnit with
          refill := t.voiceUnit.refill.map fun r => if r.voice = v then { r with disowned := true } else r },
        voices := t.voices.update v fun y => { y with
          state := .playing, owner := p.owner, clip := some p.clip, position := 0, loops := p.loops, level := 0,
          gate := ⟨.opened, ⟨960 * 65536, none⟩⟩, route := p.route, primed := false, buffer := [],
          cursor := ⟨0, p.loops⟩, pending := none, cause := none, tail := 0, requested := false } }
      (p.held = none → t.beginPending v = ready.requestRefill v) ∧
      (∀ m, p.held = some m → t.beginPending v = (ready.engineMove m).requestRefill v)) ∧
    (∀ tag level fade stop,
      ((∀ kv ∈ t.voices, kv.2.tag ≠ some tag) →
        does (.voiceFade tag level fade stop) skipped ∧ does (.voiceRelease tag) skipped ∧
        does (.voiceStop tag fade) skipped) ∧
      (∀ v x, t.standing = true → t.voices.get v = some x → x.tag = some tag →
        (∀ kv ∈ t.voices, kv.2.tag = some tag → kv.1 = v) →
        does (.voiceFade tag level fade false) (t.move (cue (.voice v) level fade none)) ∧
        does (.voiceFade tag level fade true)
          (t.move (cue (.voice v) level fade (some (.stopVoice v x.startOrder)))) ∧
        does (.voiceStop tag fade) (t.move (cue (.voice v) 0 fade (some (.stopVoice v x.startOrder)))) ∧
        (∀ p, x.pending = some p → does (.voiceRelease tag)
          { t with voices := t.voices.update v fun y => { y with pending := some { p with
              loops := if p.loops = .none ∨ p.loops = .done then p.loops else .count 1 } } }) ∧
        (x.pending = none → x.loops = .none ∨ x.loops = .done → does (.voiceRelease tag) t) ∧
        (∀ k c first last, x.pending = none → x.loops ≠ .none → x.loops ≠ .done → x.clip = some k →
          t.clips.get k = some c → c.loop = some (first, last) →
          let ahead := last - x.position
          let reaches : Prop := ahead ≤ x.buffer.length + t.inFlight v
          ∃ u y, does (.voiceRelease tag) u ∧ u.voices = t.voices.update v (fun _ => y) ∧
            y = { x with
              loops := .count 1, buffer := x.buffer.take ahead, tail := min x.tail ahead, cursor := y.cursor } ∧
            (reaches → y.cursor = ⟨last, .done⟩) ∧ (¬ reaches → y.cursor = ⟨x.cursor.index, .count 1⟩) ∧
            u = { t with voices := u.voices, voiceUnit := { t.voiceUnit with refill := u.voiceUnit.refill } } ∧
            (∀ r, t.voiceUnit.refill = some r → r.voice = v → r.disowned = false →
              u.voiceUnit.refill = some { r with keep := min r.keep (r.passed + (ahead - x.buffer.length)) }) ∧
            ((∀ r, t.voiceUnit.refill = some r → r.voice = v → r.disowned = true) →
              u.voiceUnit.refill = t.voiceUnit.refill)))) ∧
    (∀ o src level fade,
      let live := (t.output o).live
      let goes := cue (.ingredient o src) level fade none
      let absent : Prop := ∃ k, src = .role k ∧ t.roles.get k = none
      let channel : Option Nat := match src with
        | .role k => t.resolve k
        | _ => none
      (src ∈ live.map Ingredient.src → does (.ingredient o src level fade) (t.move goes)) ∧
      (src ∉ live.map Ingredient.src →
        (level = 0 ∨ 16 ≤ live.length ∨ absent → does (.ingredient o src level fade) skipped) ∧
        (0 < level → live.length < 16 → ¬ absent → does (.ingredient o src level fade) (State.move goes
          { t with outputs := t.outputs.update o fun b => { b with live := b.live ++
              [{ src := src, level := 0, channel := channel, rebind := ⟨960 * 65536, none⟩, outgoing := none }] } })))) ∧
    (∀ n level fade,
      does (.master (.foldback n) level fade) (t.move (cue (.foldbackMaster n) level fade none)) ∧
      does (.master (.programme n) level fade) (t.move (cue (.programmeMaster n) level fade none)) ∧
      (t.zones.has n = true → does (.master (.zone n) level fade) (t.move (cue (.zoneFeed n) level fade none))) ∧
      (t.zones.has n = false → does (.master (.zone n) level fade) skipped)) ∧
    (∀ n set, ∃ flags, does (.flag n set) { t with flags := flags } ∧
      ∀ m, m < 32 → flags.getLsbD m = if m = n then set else t.flags.getLsbD m) ∧
    (∀ target k pattern priority,
      let call : ActionKind := .call target k pattern priority
      let spec : CallSpec :=
        { targets := [target], priority := priority, kind := .clip (some k), pattern := pattern, ptt := false }
      let noSuch : Prop := t.clips.has k = false ∨ (∃ p, pattern = some p ∧ t.patterns.has p = false) ∨
        (∃ e, t.zoneSet [target] = .error e) ∨ t.zoneSet [target] = .ok []
      (noSuch ∨ t.inDark = true ∨ 24 ≤ t.relay.calls.length → does call skipped) ∧
      (∀ zones, ¬ noSuch → t.inDark = false → t.relay.calls.length < 24 → t.zoneSet [target] = .ok zones →
        does call ((t.addCall spec false zones).arbitrate (some t.nextId))))

/-- The lamp by its conditions, and the line that shows it: OFF outside PRESET and RUNNING, in the dark gap and with the latch
EMPTY, else FLASH under HOLD and ON without; entering FLASH it starts lit. DARK_GAP_END decides the lamp with the gap over;
FLASH_PHASE begins the other half. A CUE_LIGHT line shows the lamp, or its manual latch, a GENERAL_OUT line its latch, high or low
by polarity; other lines drive nothing. -/
def Obligations.LampDrivesTheCueLight : Prop :=
  (∀ t : State,
    (t.house.state = .dark ∨ t.house.state = .stopped ∨ t.house.state = .evac → t.lampNow = .off) ∧
    (0 < t.cue.darkGap ∨ t.cue.latch = none → t.lampNow = .off) ∧
    (t.house.state = .preset ∨ t.house.state = .running → t.cue.darkGap = 0 → t.cue.latch ≠ none →
      t.lampNow = if t.cue.holdLine = true ∨ t.cue.holdRequest = true then .flash else .on) ∧
    (t.lampNow = .flash → t.cue.lamp ≠ .flash → t.relamp =
      { t with cue := { t.cue with lamp := .flash, lit := true, flashCount := 0 } }) ∧
    (t.lampNow ≠ .flash ∨ t.cue.lamp = .flash → t.relamp = { t with cue := { t.cue with lamp := t.lampNow } })) ∧
  (∀ t : State, t.cue.darkGap = 0 → exec .darkGapEnd (t.due .darkGapEnd) = .next t.relamp) ∧
  (∀ t : State, t.cue.lamp = .flash → 250 ≤ t.cue.flashCount →
    exec .flashPhase (t.due .flashPhase) = .next { t with cue := { t.cue with lit := !t.cue.lit, flashCount := 0 } }) ∧
  (∀ (l : Nat) (x : Line) (t : State), t.lines.get l = some x →
    let lampLit := t.cue.lamp = .on ∨ t.cue.lamp = .flash ∧ t.cue.lit = true
    (x.function = .cueLight →
      (x.manual = true → t.drivenPin l = some (x.latch != x.activeLow)) ∧
      (x.manual = false →
        (lampLit → t.drivenPin l = some (!x.activeLow)) ∧ (¬ lampLit → t.drivenPin l = some x.activeLow))) ∧
    (x.function = .generalOut → t.drivenPin l = some (x.latch != x.activeLow)) ∧
    (x.function ≠ .cueLight → x.function ≠ .generalOut → t.drivenPin l = none) ∧
    (∀ level, t.drivenPin l = some level → t.pinLevel l x = level))

/-- The chase's own events outside DARK: the frame advance on a 24-hour clock, silence in LOCKED and in ACQUIRING, and the end of
the freewheel; the conditions of the timecode GO are examined after the first two. TIMECODE_GO: with an armed latched copy whose
frame the show has reached, LOCKED or FREEWHEEL, in PRESET or RUNNING, the armed mark is cleared and a GO is taken. -/
def Obligations.ChaseEvents : Prop :=
  (∀ t : State, t.inDark = false →
    (t.chase.state ≠ .absent → 40 ≤ t.chase.tick → exec .chaseFrameAdvance (t.due .chaseFrameAdvance) =
      .next (State.examine { t with chase := { t.chase with tick := 0, frame := (t.chase.frame + 1) % 2160000 } })) ∧
    (120 ≤ t.chase.silence → t.chase.state = .locked → exec .chaseSilence (t.due .chaseSilence) =
      .next (State.examine (State.raise .chaseChanged
        { t with chase := { t.chase with state := .freewheel, freewheel := 0 } }))) ∧
    (120 ≤ t.chase.silence → t.chase.state = .acquiring → exec .chaseSilence (t.due .chaseSilence) =
      .next (State.raise .chaseChanged { t with chase := { t.chase with state := .absent, count := 0 } })) ∧
    (t.chase.state = .freewheel → t.settings.freewheelLimit < t.chase.freewheel →
      exec .freewheelExpiry (t.due .freewheelExpiry) =
        .next (State.raise .chaseChanged
          { t with chase := { t.chase with state := .absent, count := 0, freewheel := 0 } }))) ∧
  (∀ (l : Latch) (f : Nat) (t : State),
    t.cue.latch = some l → l.armed = true → l.cue.trigger = .timecode f → f ≤ t.chase.frame →
    (t.chase.state = .locked ∨ t.chase.state = .freewheel) → (t.house.state = .preset ∨ t.house.state = .running) →
    (∀ e, e ∈ t.examine.agenda ↔ e ∈ t.agenda ∨ e = .timecodeGo) ∧
    exec .timecodeGo (t.due .timecodeGo) =
      .next (State.takeGo { t with cue := { t.cue with latch := some { l with armed := false } } }).1.relamp)

/-- The phases of a call's pass: OPENING_END and GAP_END go to the chime, CLOSING_END ends the pass and arbitrates, and
LIVE_MAXIMUM cuts a LIVE call. A call with no pattern goes on to its message; one for which no generator is free and eligible
raises CHIME_SKIPPED first; one given a generator begins its chime there, at the rising zero crossing. The one given is the lowest
that is FREE and eligible: generator 1 while no output is in TONE, generator 4 for priority 2 and above. A LIVE call's message is
its phase alone; a CLIP call's asks for a voice: the lowest IDLE one, the oldest cue voice by a steal where none is IDLE, or the
waiting list where no cue has one either. The evacuation call without a clip goes on to its gap, and without a pattern too it
stays in its message. That the start order wraps at 2^48 is the model's reading (log entry 29). -/
def Obligations.PassEvents : Prop :=
  ∀ (id : Nat) (c : Call) (t : State), t.call id = some c →
    (c.phase = .opening → c.timer = 0 →
      exec (.openingEnd id) (t.due (.openingEnd id)) = .next (t.enterChime id)) ∧
    (c.phase = .gap → c.timer = 0 → exec (.gapEnd id) (t.due (.gapEnd id)) = .next (t.enterChime id)) ∧
    (c.phase = .closing → c.timer = 0 →
      exec (.closingEnd id) (t.due (.closingEnd id)) =
        .next ((t.setCall id fun x => { x with phase := .idle }).arbitrate none)) ∧
    ((∃ n, c.kind = .live n) → c.cut = false → t.settings.liveMaximum * 1000 < c.liveTime →
      exec (.liveMaximum id) (t.due (.liveMaximum id)) =
        .next (if c.phase = .opening ∨ c.phase = .chime ∨ c.phase = .message then
          ((t.setCall id fun x => { x with cut := true }).enterClosing id).arbitrate none
        else t.setCall id fun x => { x with cut := true })) ∧
    (t.standing = true →
      let serves (g : Nat) : Prop := (t.gen g).use = .free ∧
        (g = 1 → ∀ kb ∈ t.outputs, kb.2.check ≠ .tone) ∧ (g = 4 → 2 ≤ c.priority)
      (∀ g, t.freeGenerator c.priority = some g ↔ 1 ≤ g ∧ g ≤ 4 ∧ serves g ∧ ∀ h, 1 ≤ h → h < g → ¬ serves h) ∧
      (t.freeGenerator c.priority = none ↔ ∀ g, 1 ≤ g → g ≤ 4 → ¬ serves g)) ∧
    (c.pattern = none → t.enterChime id = t.enterMessage id) ∧
    (∀ k, c.pattern = some k →
      (t.freeGenerator c.priority = none → t.enterChime id = (t.raise .chimeSkipped).enterMessage id) ∧
      (∀ g p, t.freeGenerator c.priority = some g → t.patterns.get k = some p → t.enterChime id =
        { t.setCall id fun x => { x with phase := .chime, gen := some g } with
          gens := t.gens.update g fun _ =>
            { use := .chime, call := some id, pattern := some k, shadow := some p.tune, part := .mark,
              phase := 4194304, step := p.tune.primary, secondary := false, count := 0, cyclesDone := 0,
              restsDone := 0, output := 0 } })) ∧
    (∀ n, c.kind = .live n → t.enterMessage id = t.setCall id fun x => { x with phase := .message }) ∧
    (∀ k, c.kind = .clip (some k) →
      let speaking := t.setCall id fun x => { x with phase := .message }
      let order := (t.voiceUnit.startOrder + 1) % 2 ^ 48
      let message : PendingPlay := { clip := k, route := [], loops := .none, held := none, owner := .call id }
      let holding (v : Nat) (u : State) : State := State.setCall id (fun x => { x with voice := .held v }) u
      (∀ v, t.idleVoice = some v → t.enterMessage id = speaking.giveVoice v id k) ∧
      (t.idleVoice = none → t.oldestCueVoice = none → t.enterMessage id =
        State.setCall id (fun x => { x with voice := .waiting })
          { speaking with voiceUnit := { t.voiceUnit with waiting := t.voiceUnit.waiting ++ [id] } }) ∧
      (∀ (v : Nat) (u : State), (∃ y, u.voices.get v = some y) → u.giveVoice v id k = holding v (State.beginPending v
        { u with
          voiceUnit := { u.voiceUnit with startOrder := (u.voiceUnit.startOrder + 1) % 2 ^ 48 },
          voices := u.voices.update v fun y => { y with
            startOrder := (u.voiceUnit.startOrder + 1) % 2 ^ 48, tag := none, pending := some message } })) ∧
      (∀ v x, t.standing = true → t.voices.get v = some x → (∀ w y, t.voices.get w = some y → y.state ≠ .idle) →
        x.owner = .cue → (∀ w y, w ≠ v → t.voices.get w = some y → y.owner = .cue → x.startOrder < y.startOrder) →
        let stolen : State := holding v (State.raise .voiceStolen
          { speaking with
            voiceUnit := { t.voiceUnit with startOrder := order },
            voices := t.voices.update v fun y => { y with
              state := .closing, owner := .call id, tag := none, startOrder := order, pending := some message,
              cause := some .steal, gate := y.gate.close } })
        (x.gate.state ≠ .closed → t.enterMessage id = stolen) ∧
        (x.gate.state = .closed → t.enterMessage id = stolen.beginPending v))) ∧
    (c.kind = .clip none →
      (c.pattern = none → t.enterMessage id = t.setCall id fun x => { x with phase := .message }) ∧
      (c.pattern ≠ none → t.enterMessage id = State.enqueueIf (t.settings.evacGap == 0) (.gapEnd id)
        (t.setCall id fun x => { x with phase := .gap, timer := t.settings.evacGap, voice := .none })))

/-- A generator in a sample period outside DARK: sounding, its output is the triangle at its phase and the phase advances by the
step; else the output is 0 and the phase holds; in a chime the section counts, and a rest that is counted reloads the shadow. The
sections of a chime: MARK_END enters SPACE; CYCLE_END counts the cycle, flips the tone under ALTERNATE and starts the next mark or
the rest; CHIME_COMPLETE frees the generator and the pass goes on to its message. -/
def Obligations.ChimeEvents : Prop :=
  (∀ (inp : InPorts) (n : Nat) (g : Generator) (s t : State), s.settle = t → t.inDark = false → t.house.tickDiv < 48 →
    t.standing = true → t.gens.get n = some g →
    let phase := if g.phase + g.step < 16777216 then g.phase + g.step else g.phase + g.step - 16777216
    let output : Int := max (-8388607) (min 8388607
      (if g.phase < 8388608 then 2 * (g.phase : Int) - 8388608 else 25165824 - 2 * (g.phase : Int)))
    ∃ u, exec (.samplePeriod inp) s = .next u ∧
      (g.use = .free → u.gens.get n = some { g with output := 0 }) ∧
      (g.use = .lineCheck → u.gens.get n = some { g with output := output, phase := phase }) ∧
      (g.use = .chime →
        (g.part = .mark → u.gens.get n = some { g with output := output, phase := phase, count := g.count + 1 } ∧
          (g.tune.mark * 48 ≤ g.count + 1 → (phase + 16777216 - 4194304) % 16777216 < g.step →
            .markEnd n ∈ u.agenda)) ∧
        (g.part = .space → u.gens.get n = some { g with output := 0, count := g.count + 1 } ∧
          (g.tune.space * 48 ≤ g.count + 1 → .cycleEnd n ∈ u.agenda)) ∧
        (g.part = .rest → g.restsDone < g.tune.rests →
          (g.count + 1 < (g.tune.mark + g.tune.space) * 48 →
            u.gens.get n = some { g with output := 0, count := g.count + 1 }) ∧
          (∀ q, (g.tune.mark + g.tune.space) * 48 ≤ g.count + 1 → t.freshShadow g = some q →
            u.gens.get n = some { g with output := 0, count := 0, restsDone := g.restsDone + 1, shadow := some q } ∧
            (q.rests ≤ g.restsDone + 1 → .chimeComplete n ∈ u.agenda))))) ∧
  (∀ (n : Nat) (g : Generator) (t : State), t.gens.get n = some g → g.use = .chime →
    (g.part = .mark → g.tune.mark * 48 ≤ g.count → passedCrossing g.phase g.step = true →
      exec (.markEnd n) (t.due (.markEnd n)) =
        .next (State.enqueueIf (g.tune.space == 0) (.cycleEnd n)
          { t with gens := t.gens.update n fun _ => { g with part := .space, count := 0 } })) ∧
    (∀ q, g.part = .space → g.tune.space * 48 ≤ g.count → t.freshShadow g = some q →
      (g.cyclesDone + 1 < q.cycles → exec (.cycleEnd n) (t.due (.cycleEnd n)) =
        .next { t with gens := t.gens.update n fun _ =>
          { g with
            cyclesDone := g.cyclesDone + 1, shadow := some q, count := 0, part := .mark, phase := 4194304,
            secondary := if q.alternate then !g.secondary else g.secondary,
            step := if q.alternate && !g.secondary then q.secondary else q.primary } }) ∧
      (q.cycles ≤ g.cyclesDone + 1 → exec (.cycleEnd n) (t.due (.cycleEnd n)) =
        .next (State.enqueueIf (q.rests ≤ g.restsDone) (.chimeComplete n)
          { t with gens := t.gens.update n fun _ =>
            { g with
              cyclesDone := g.cyclesDone + 1, shadow := some q, count := 0, part := .rest,
              secondary := if q.alternate then !g.secondary else g.secondary,
              step := if q.alternate && !g.secondary then q.secondary else q.primary } }))) ∧
    (∀ id, g.part = .rest → g.tune.rests ≤ g.restsDone → g.call = some id →
      exec (.chimeComplete n) (t.due (.chimeComplete n)) =
        .next (((State.setCall id (fun c => { c with gen := none })
          { t with gens := t.gens.update n fun _ => Generator.reset }).enterMessage id))))

/-- GO and HOLD lines: an activation presents a GO; HOLD becomes present or absent with the level of its lines. The house's lines
cause what the requests cause, in the states that take them, and are ignored in the others. PTT: the first press of a PTT line
places the LIVE call, the last release ends it, and the presses and releases between do neither. A press clears every earlier PTT
mark and enters the LIVE call of the PTT settings, marked and with an arbitration, or raises CALL_DROPPED where PLACE_CALL would
be refused; that a refused press leaves the earlier marks as they stand is the model's reading (log entry 45). A release does what
END_CALL does to the marked call, and nothing where none is present. The level of a function is active while some live line of it
is. -/
def Obligations.LineEvents : Prop :=
  (∀ (l : Nat) (t : State),
    (t.flips l .go true = true →
      exec (.goLineActivation l) (t.due (.goLine l)) = .next (t.setActive l true).takeGo.1.relamp) ∧
    (t.flips l .hold true = true →
      exec (.holdLineActivation l) (t.due (.holdLine l)) =
        .next (State.relamp { t.setActive l true with cue := { t.cue with holdLine := true } })) ∧
    (t.flips l .hold false = true →
      (t.cue.pendingGo = false ∨ t.cue.holdRequest = true ∨ t.cue.holdLine = false ∨
          (t.setActive l false).lineLevel .hold = true →
        exec (.holdLineRelease l) (t.due (.holdRelease l)) =
          .next (State.relamp { t.setActive l false with
            cue := { t.cue with holdLine := (t.setActive l false).lineLevel .hold } })) ∧
      (t.cue.pendingGo = true → t.cue.holdLine = true → t.cue.holdRequest = false →
        (t.setActive l false).lineLevel .hold = false → exec (.holdLineRelease l) (t.due (.holdRelease l)) =
          .next (State.takeGo { t.setActive l false with
            cue := { t.cue with holdLine := false, pendingGo := false } }).1.relamp)) ∧
    (t.flips l .stop true = true →
      exec (.stopLineActivation l) (t.due (.stopLine l)) =
        .next (if t.house.state = .running then (t.setActive l true).stopNow else t.setActive l true)) ∧
    (t.flips l .resume true = true →
      exec (.resumeLineActivation l) (t.due (.resumeLine l)) =
        .next (if t.house.state = .stopped then (t.setActive l true).resumeNow else t.setActive l true)) ∧
    (t.flips l .evac true = true →
      exec (.evacLineActivation l) (t.due (.evacLine l)) =
        .next (if t.house.state = .evac then t.setActive l true else (t.setActive l true).evacNow)) ∧
    (t.flips l .evac false = true →
      exec (.evacLineRelease l) (t.due (.evacRelease l)) = .next (t.setActive l false)) ∧
    (t.flips l .wake true = true →
      exec (.wakeLineActivation l) (t.due (.wakeLine l)) =
        .next (if t.house.state = .dark then (t.setActive l true).wakeNow else t.setActive l true)) ∧
    (t.flips l .ptt true = true →
      (t.relay.pttPressed = false → exec (.pttPress l) (t.due (.pttPress l)) =
        .next (State.placePtt { t.setActive l true with relay := { t.relay with pttPressed := true } })) ∧
      (t.relay.pttPressed = true → exec (.pttPress l) (t.due (.pttPress l)) = .next (t.setActive l true))) ∧
    (t.flips l .ptt false = true → t.relay.pttPressed = true →
      ((t.setActive l false).lineLevel .ptt = false → exec (.pttRelease l) (t.due (.pttRelease l)) =
        .next (State.endPtt { t.setActive l false with relay := { t.relay with pttPressed := false } })) ∧
      ((t.setActive l false).lineLevel .ptt = true → exec (.pttRelease l) (t.due (.pttRelease l)) =
        .next (t.setActive l false)))) ∧
  (∀ (l : Nat) (f : LineFunction) (active : Bool) (t : State),
    (t.flips l f active = true ↔ ∃ x, t.lines.get l = some x ∧ x.live = true ∧ x.function = f ∧ x.active ≠ active ∧
      (t.inDark = true → f = .evac ∨ f = .wake)) ∧
    t.setActive l active =
      { t with lines := t.lines.update l fun x => { x with active := active, count := 0 } } ∧
    (∀ x : Line, x.live = true ↔
      x.enabled = true ∧ x.function ≠ .none ∧ x.function ≠ .cueLight ∧ x.function ≠ .generalOut) ∧
    (t.lineLevel f = true ↔ ∃ kl ∈ t.lines, kl.2.live = true ∧ kl.2.function = f ∧ kl.2.active = true)) ∧
  (∀ (pressed : Bool) (t : State),
    let told : State := { t with relay := { t.relay with pttPressed := pressed } }
    (t.inDark = true → t.reportPtt pressed = t) ∧
    (t.inDark = false →
      (pressed = t.relay.pttPressed → t.reportPtt pressed = t) ∧
      (pressed = true → t.relay.pttPressed = false → t.reportPtt pressed = told.placePtt) ∧
      (pressed = false → t.relay.pttPressed = true → t.reportPtt pressed = told.endPtt))) ∧
  (∀ t : State,
    let unmarked : State := { t with relay := { t.relay with
      calls := t.relay.calls.mapRecords fun _ c => { c with ptt := false } } }
    let spec : CallSpec :=
      { targets := t.settings.pttTargets, priority := t.settings.pttPriority, kind := .live t.settings.pttSource,
        pattern := none, ptt := true }
    let refused : Prop := (∃ e, t.zoneSet t.settings.pttTargets = .error e) ∨
      t.zoneSet t.settings.pttTargets = .ok [] ∨ t.inDark = true ∨ 24 ≤ t.relay.calls.length
    (refused → t.placePtt = t.raise .callDropped) ∧
    (∀ zones, ¬ refused → t.zoneSet t.settings.pttTargets = .ok zones →
      t.placePtt = (unmarked.addCall spec false zones).arbitrate (some t.nextId)) ∧
    ((∀ kc ∈ t.relay.calls, kc.2.ptt = false) → t.endPtt = t) ∧
    (∀ id c, t.call id = some c → c.ptt = true → (∀ kc ∈ t.relay.calls, kc.2.ptt = true → kc.1 = id) →
      t.endPtt = t.endCallNow id)) ∧
  (∀ (line request : Bool) (t : State),
    let set : State := { t with cue := { t.cue with holdLine := line, holdRequest := request } }
    let lifted : Prop := t.holdPresent = true ∧ line = false ∧ request = false ∧ t.cue.pendingGo = true
    (lifted → t.setHold line request =
      (State.takeGo { set with cue := { set.cue with pendingGo := false } }).1) ∧
    (¬ lifted → t.setHold line request = set))

/-- An internal event that comes as a command and has not come due changes nothing, and one that has come due but whose condition
no longer holds leaves the agenda and changes nothing else: the model's choice (log entry 3). -/
def Obligations.EventsNotDueChangeNothing : Prop :=
  (∀ (e : Event) (s : State), e ∉ s.agenda → exec e.command s = .next s) ∧
  ∀ (n : Nat) (src : Source) (t : State),
    let idles (e : Event) : Prop := exec e.command (t.due e) = .next t
    (t.clipEnded n = false → idles (.clipEnd n)) ∧
    ((t.gen n).markEnded = false → idles (.markEnd n)) ∧
    ((t.gen n).spaceEnded = false → idles (.cycleEnd n)) ∧
    ((t.gen n).chimeDone = false → idles (.chimeComplete n)) ∧
    (t.voiceUnit.refill ≠ none ∨ t.inDark = true ∨ t.nextRequest = none → idles .refillGrant) ∧
    ((∀ r, t.ramps.get n = some r → r.glide.left ≠ 0) → idles (.rampComplete n)) ∧
    ((t.voice n).gate.state ≠ .closing ∨ (t.voice n).gate.term.due = false → idles (.gateClosed n)) ∧
    ((t.voice n).gate.state ≠ .opening ∨ (t.voice n).gate.term.due = false → idles (.gateOpened n)) ∧
    ((∀ i ∈ (t.output n).live, i.src = src → ∀ x, i.outgoing = some x → x.term.due = false) →
      idles (.crossfadeEnd n src)) ∧
    (t.inDark = true ∨ (∀ k, t.packs.get n = some k →
        k.age < t.settings.reportTimeout ∨ k.health = .unknown ∨ k.health = .lost) → idles (.packTimeout n)) ∧
    (t.house.held = true ∨ (∀ x, t.cue.runs.get n = some x → ∀ a ∈ x.actions,
        a.executed = true ∨ x.elapsed < a.action.delay) → idles (.actionDue n)) ∧
    (t.house.held = true ∨ t.actionIsDue n = true ∨ (∀ x, t.cue.runs.get n = some x →
        x.follow = .absent ∨ x.follow = .expired ∨ ∃ w, x.follow = .waiting w ∧ x.elapsed < max w 1) →
      idles (.followExpiry n)) ∧
    (t.cue.darkGap ≠ 0 → idles .darkGapEnd) ∧
    (t.cue.lamp ≠ .flash ∨ t.cue.flashCount < 250 → idles .flashPhase) ∧
    (t.inDark = true ∨ t.chase.state = .absent ∨ t.chase.tick < 40 → idles .chaseFrameAdvance) ∧
    (t.inDark = true ∨ t.chase.silence < 120 ∨ t.chase.state = .absent ∨ t.chase.state = .freewheel →
      idles .chaseSilence) ∧
    (t.inDark = true ∨ t.chase.state ≠ .freewheel ∨ t.chase.freewheel ≤ t.settings.freewheelLimit →
      idles .freewheelExpiry) ∧
    ((∀ l, t.cue.latch = some l → l.armed = false ∨ l.cue.trigger = .manual ∨
          ∃ f, l.cue.trigger = .timecode f ∧ t.chase.frame < f) ∨
        t.chase.state = .absent ∨ t.chase.state = .acquiring ∨
        t.house.state = .stopped ∨ t.house.state = .evac ∨ t.house.state = .dark → idles .timecodeGo) ∧
    ((∀ c, t.call n = some c → c.phase ≠ .opening ∨ c.timer ≠ 0) → idles (.openingEnd n)) ∧
    ((∀ c, t.call n = some c → c.phase ≠ .closing ∨ c.timer ≠ 0) → idles (.closingEnd n)) ∧
    ((∀ c, t.call n = some c → c.phase ≠ .gap ∨ c.timer ≠ 0) → idles (.gapEnd n)) ∧
    ((∀ c, t.call n = some c → c.isLive = false ∨ c.cut = true ∨ c.liveTime ≤ t.settings.liveMaximum * 1000) →
      idles (.liveMaximum n)) ∧
    (t.flips n .go true = false → idles (.goLine n)) ∧
    (t.flips n .hold true = false → idles (.holdLine n)) ∧
    (t.flips n .hold false = false → idles (.holdRelease n)) ∧
    (t.flips n .stop true = false → idles (.stopLine n)) ∧
    (t.flips n .resume true = false → idles (.resumeLine n)) ∧
    (t.flips n .evac true = false → idles (.evacLine n)) ∧
    (t.flips n .evac false = false → idles (.evacRelease n)) ∧
    (t.flips n .wake true = false → idles (.wakeLine n)) ∧
    (t.flips n .ptt true = false → idles (.pttPress n)) ∧
    (t.flips n .ptt false = false → idles (.pttRelease n))

/-! ### Arbitration and the end of passes -/

/-- An arbitration. A zone, or the stage, may be granted where it is free or held by a pass of strictly lower priority, and in
EVAC to priority 3 alone. Calls are taken highest priority first, then earliest created. A ready call is granted all of its
WAITING zones that may be granted; they become ACTIVE and its own, their ducks, and every output's stage duck where the stage is
one of them, move to their depths over their fades with owner CALL, and its pass opens with the longest of those fades. Which of
the moves snap, where the pool has too few free entries, is the model's choice (log entry 38) and is left open here. A pass that
loses a zone goes back to WAITING there if it is a CLIP call's and is PREEMPTED if it is a LIVE one's; with no zone left it ends
at once, its generator and its voice let go. Which voice and which start order a waiting request then gets, where one call's grants
end several passes, is the model's choice too (log entry 49) and is left open here. A LIVE call's zones still WAITING after the arbitration at its creation are MISSED,
and no call is left with nothing to do. -/
def Obligations.ArbiterGrants : Prop :=
  (∀ (c : Call) (z : Nat) (t : State), t.grantable c z = true ↔
    (t.house.state = .evac → 3 ≤ c.priority) ∧ ∀ o, t.occupant z = some o → o.priority < c.priority) ∧
  (∀ t : State, t.relay.calls.sorted = true →
    t.callOrder.Perm t.relay.calls.keys ∧
    t.callOrder.Pairwise fun a b => ∀ x y, t.call a = some x → t.call b = some y →
      y.priority < x.priority ∨ (x.priority = y.priority ∧ x.order ≤ y.order)) ∧
  (∀ (id : Nat) (c : Call) (t : State), t.occupancyLaw = true → t.call id = some c →
    let granted := (c.zonesIn .waiting).filter (t.grantable c)
    (c.phase ≠ .idle ∨ granted = [] → t.arbitrateCall id = t) ∧
    (c.phase = .idle → granted ≠ [] →
      (∃ x, (t.arbitrateCall id).call id = some x ∧ x.phase = .opening ∧ x.timer = largest (granted.map t.duckFade) ∧
        (x.timer = 0 → .openingEnd id ∈ (t.arbitrateCall id).agenda) ∧
        (∀ z, z ∈ granted → x.entries.get z = some .active) ∧
        (∀ z, z ∉ granted → x.entries.get z = c.entries.get z)) ∧
      (t.rampLaw = true →
        let u := t.arbitrateCall id
        let ducking (el : Element) (depth fade : Nat) : Prop :=
          u.rampOn el = none ∧ u.fine el = depth * 65536 ∨
          ∃ e r, u.rampOn el = some (e, r) ∧ r.owner = .call ∧ r.action = none ∧ r.frozen = false ∧
            u.fine el = t.fine el ∧ r.glide = Glide.between (t.fine el) (depth * 65536) (min fade 600000) false
        (∀ z x, z ∈ granted → z ≠ 0 → t.zones.get z = some x →
          ducking (.zoneDuck z) (min x.duckDepth 480) x.duckFade) ∧
        (0 ∈ granted → ∀ o b, t.outputs.get o = some b →
          ducking (.stageDuck o) (min b.duckDepth 480) t.settings.stageDuckFade) ∧
        (t.inDark = false → 0 < t.settings.stageDuckFade → (∀ z x, t.zones.get z = some x → 0 < x.duckFade) →
          t.ramps.length + t.zones.length + t.outputs.length ≤ 128 →
          (∀ z, z ∈ granted → z ≠ 0 → u.rampOn (.zoneDuck z) ≠ none) ∧
          (0 ∈ granted → ∀ o, t.outputs.has o = true → u.rampOn (.stageDuck o) ≠ none))) ∧
      (∀ z, z ∈ granted → (t.arbitrateCall id).occupant z = some ⟨id, c.priority⟩) ∧
      (∀ z, z ∉ granted → (t.arbitrateCall id).occupant z = t.occupant z) ∧
      (∀ j d, j ≠ id → t.call j = some d → ∃ x, (t.arbitrateCall id).call j = some x ∧
        (∀ z o, z ∈ granted → t.occupant z = some o → o.id = j →
          x.entries.get z = some (if d.isLive then .preempted else .waiting)) ∧
        (∀ z, z ∉ granted ∨ (∀ o, t.occupant z = some o → o.id ≠ j) → x.entries.get z = d.entries.get z) ∧
        (x.zonesIn .active ≠ [] ∨ d.zonesIn .active = [] → x.phase = d.phase ∧ x.gen = d.gen) ∧
        (x.zonesIn .active = [] → d.zonesIn .active ≠ [] → x.phase = .idle ∧ x.gen = none ∧
          (t.voiceUnit.waiting = [] → x.voice = .none))))) ∧
  (∀ (created : Option Nat) (t : State),
    let u := t.callOrder.foldl State.arbitrateCall t
    t.arbitrate created = t.callOrder.foldl State.retireIfFinished
      (match created with
        | none => u
        | some id => u.setCall id fun x => if x.isLive then x.turn .waiting .missed else x) ∧
    (t.relay.calls.sorted = true → ∀ id x, (t.arbitrate created).call id = some x →
      (x.phase ≠ .idle ∨ x.zonesIn .waiting ≠ [] ∨ x.zonesIn .active ≠ []) ∧
      (created = some id → x.isLive = true → x.zonesIn .waiting = [])))

/-- A pass enters CLOSING: its zones are free and DONE, their ducks and the stage's move to 0 over their restore fades, its voice
and its generator are let go, and its timer is the longest of those fades. To let go, there and where a pass loses its last zone
and ends at once: its generator is FREE with every field cleared; the playback on its voice ends, or, where the voice is still
CLOSING for the steal that took it, its pending playback is dropped; a request that waits for a voice leaves the waiting list. That
a pass which ends at once has its timer at 0 is the model's choice (log entry 42). END_CALL, a message delivered and an end of the
live maximum bring a pass to CLOSING. A call retires, with CALL_DROPPED if a zone was MISSED or PREEMPTED or the call was CUT, and
CALL_DONE if not, when it has no pass and no zone WAITING or ACTIVE. -/
def Obligations.PassesEndAndRetire : Prop :=
  let letsGo (id : Nat) (c : Call) (t u : State) : Prop :=
    (c.gen = none → u.gens = t.gens) ∧
    (∀ g, c.gen = some g → u.gens = t.gens.update g fun _ =>
      { use := .free, call := none, pattern := none, shadow := none, part := .mark, phase := 0, step := 0, secondary := false,
        count := 0, cyclesDone := 0, restsDone := 0, output := 0 }) ∧
    (c.voice = .none → u.voices = t.voices ∧ u.voiceUnit = t.voiceUnit) ∧
    (c.voice = .waiting → u.voices = t.voices ∧
      u.voiceUnit = { t.voiceUnit with waiting := t.voiceUnit.waiting.erase id }) ∧
    (∀ v x, c.voice = .held v → t.voices.get v = some x →
      (x.owner ≠ .call id → u.voices = t.voices ∧ u.voiceUnit = t.voiceUnit) ∧
      (x.owner = .call id → x.state = .closing → u.voiceUnit = t.voiceUnit ∧
        u.voices = t.voices.update v fun y => { y with pending := none }) ∧
      (x.owner = .call id → x.state ≠ .closing →
        u.voices = (t.endVoice v).voices ∧ u.voiceUnit = (t.endVoice v).voiceUnit))
  (∀ (id : Nat) (c : Call) (t : State), t.call id = some c →
    letsGo id c t (t.enterClosing id) ∧ letsGo id c t (t.endPass id) ∧
    (t.endPass id).call id = some { c with phase := .idle, timer := 0, voice := .none, gen := none } ∧
    (∀ j d, j ≠ id → t.call j = some d → ∃ x, (t.endPass id).call j = some x ∧ x = { d with voice := x.voice }) ∧
    (t.endPass id).zones = t.zones ∧ (t.endPass id).relay.stage = t.relay.stage ∧ (t.endPass id).outputs = t.outputs) ∧
  (∀ (id : Nat) (c : Call) (t : State), t.occupancyLaw = true → t.rampLaw = true → t.call id = some c →
    let held := c.zonesIn .active
    let u := t.enterClosing id
    let restoring (el : Element) (fade : Nat) : Prop :=
      u.rampOn el = none ∧ u.fine el = 0 ∨
      ∃ e r, u.rampOn el = some (e, r) ∧ r.owner = .call ∧ r.action = none ∧ u.fine el = t.fine el ∧
        r.glide = Glide.between (t.fine el) 0 (min fade 600000) false
    (∃ x, u.call id = some x ∧ x.phase = .closing ∧ x.timer = largest (held.map t.restoreFade) ∧
      x.voice = .none ∧ x.gen = none ∧ (x.timer = 0 → .closingEnd id ∈ u.agenda) ∧
      (∀ z, x.entries.get z = (c.entries.get z).map fun st => if st = .active then .done else st)) ∧
    (∀ z, z ∈ held → u.occupant z = none) ∧ (∀ z, z ∉ held → u.occupant z = t.occupant z) ∧
    (∀ z x, z ∈ held → z ≠ 0 → t.zones.get z = some x → restoring (.zoneDuck z) x.restoreFade) ∧
    (0 ∈ held → ∀ o, t.outputs.has o = true → restoring (.stageDuck o) t.settings.stageRestoreFade) ∧
    (∀ j d, j ≠ id → t.call j = some d → ∃ x, u.call j = some x ∧ x = { d with voice := x.voice })) ∧
  (∀ (id : Nat) (c : Call) (t : State), t.call id = some c →
    (c.phase = .opening ∨ c.phase = .chime ∨ c.phase = .message → t.endCallNow id =
      ((t.enterClosing id).setCall id fun x => x.turn .waiting .missed).arbitrate none) ∧
    (c.phase = .idle ∨ c.phase = .closing ∨ c.phase = .gap → t.endCallNow id =
      (t.setCall id fun x => x.turn .waiting .missed).retireIfFinished id) ∧
    (c.phase = .message → c.evac = false → t.delivered id =
      ((t.setCall id fun x => { x with voice := .none }).enterClosing id).arbitrate none) ∧
    (c.phase = .message → c.evac = true → t.delivered id = State.enqueueIf (t.settings.evacGap == 0) (.gapEnd id)
      (t.setCall id fun x => { x with phase := .gap, timer := t.settings.evacGap, voice := .none })) ∧
    (c.phase = .idle → (∀ e ∈ c.entries, e.2 ≠ .waiting ∧ e.2 ≠ .active) →
      t.retireIfFinished id = t.retireCall id) ∧
    (c.phase ≠ .idle ∨ (∃ e ∈ c.entries, e.2 = .waiting ∨ e.2 = .active) → t.retireIfFinished id = t) ∧
    (c.cut = true ∨ (∃ e ∈ c.entries, e.2 = .missed ∨ e.2 = .preempted) → t.retireCall id =
      State.raise .callDropped { t with relay := { t.relay with calls := t.relay.calls.erase id } }) ∧
    (c.cut = false → (∀ e ∈ c.entries, e.2 ≠ .missed ∧ e.2 ≠ .preempted) → t.retireCall id =
      State.raise .callDone { t with relay := { t.relay with calls := t.relay.calls.erase id } }))

/-! ### Writes and retirements -/

/-- WRITE of a role, a performer and a pack that is taken: the record as written, and the roles' resolutions recomputed; a LOST or
QUALIFYING pack moved to another channel takes its protection with it, the old channel restored before the new one is protected
(the model's choice, log entry 38). A role resolves to the channel of its performer's primary pack; in a recomputation each live
ingredient of a role that resolves to another channel crossfades over 20 ticks, from the level its rebind term stands at and from
the floor, or is set to the channel at once in DARK, and nothing else changes. RETIRE of a role and of a performer: removed with a
count of 0, IN_USE with another, NO_SUCH where absent. A role's count is of the live and pending ingredients and the cue actions
that name it, a performer's of the roles that name it. RETIRE of a pack: its performer's slot cleared, the roles recomputed, its
channel's protection lifted. -/
def Obligations.CastWritesTaken : Prop :=
  (∀ (w : WriteReq) (k : Nat) (label : Label) (performer : Option Nat) (s t : State), s.settle = t →
    readKey 1 0 95 w.key = .ok k → modeTakes w.mode (t.roles.has k) = true →
    readRole w.fields = .ok (label, performer) → (∀ p, performer = some p → t.performers.has p = true) →
    exec (.writeRole w) s =
      .next (State.answered 0x02 [] (State.rebindAll { t with roles := t.roles.put k ⟨label, performer⟩ }))) ∧
  (∀ (w : WriteReq) (k : Nat) (p : Performer) (s t : State), s.settle = t →
    readKey 1 0 127 w.key = .ok k → modeTakes w.mode (t.performers.has k) = true → readPerformer w.fields = .ok p →
    (∀ x, p.primary = some x ∨ p.spare = some x → t.packs.has x = true) →
    (∀ z, p.room = some z → t.zones.has z = true) → (p.primary = none ∨ p.primary ≠ p.spare) →
    t.namedByOther k p.primary = false → t.namedByOther k p.spare = false →
    exec (.writePerformer w) s =
      .next (State.answered 0x02 [] (State.rebindAll { t with performers := t.performers.put k p }))) ∧
  (∀ (w : WriteReq) (k ch : Nat) (s t : State), s.settle = t →
    readKey 1 0 95 w.key = .ok k → modeTakes w.mode (t.packs.has k) = true → readPack w.fields = .ok ch →
    (∀ jp ∈ t.packs, jp.2.channel = ch → jp.1 = k) →
    (t.packs.get k = none → exec (.writePack w) s =
      .next (State.answered 0x02 [] { t with packs := t.packs.put k (Pack.fresh ch) })) ∧
    (∀ old, t.packs.get k = some old → old.channel = ch → exec (.writePack w) s = .next (t.answered 0x02 [])) ∧
    (∀ old, t.packs.get k = some old → old.channel ≠ ch → exec (.writePack w) s =
      .next (State.answered 0x02 []
        (let moved := (t.setPack k fun x => { x with channel := ch }).rebindAll
         if old.health = .lost ∨ old.health = .qualifying then (moved.restoreChannel old.channel).protectChannel ch
         else moved)))) ∧
  (∀ (key : Option Bytes) (k : Nat) (s t : State), s.settle = t → readKey 1 0 95 key = .ok k →
    (t.roles.has k = true → t.roleCount k = 0 → exec (.retireRole key) s =
      .next (State.answered 0x03 [] { t with roles := t.roles.erase k })) ∧
    (t.roles.has k = true → t.roleCount k ≠ 0 → exec (.retireRole key) s = .next (t.turnedAway 0x03 .inUse)) ∧
    (t.roles.has k = false → exec (.retireRole key) s = .next (t.turnedAway 0x03 .noSuch)) ∧
    (∀ p, t.packs.get k = some p → exec (.retirePack key) s =
      .next (State.answered 0x03 [] ((State.rebindAll
        { t with
          performers := t.performers.mapRecords fun _ x =>
            { x with
              primary := if x.primary = some k then none else x.primary,
              spare := if x.spare = some k then none else x.spare },
          packs := t.packs.erase k }).restoreChannel p.channel))) ∧
    (t.packs.get k = none → exec (.retirePack key) s = .next (t.turnedAway 0x03 .noSuch))) ∧
  (∀ (key : Option Bytes) (k : Nat) (s t : State), s.settle = t → readKey 1 0 127 key = .ok k →
    (t.performers.has k = true → t.performerCount k = 0 → exec (.retirePerformer key) s =
      .next (State.answered 0x03 [] { t with performers := t.performers.erase k })) ∧
    (t.performers.has k = true → t.performerCount k ≠ 0 → exec (.retirePerformer key) s =
      .next (t.turnedAway 0x03 .inUse)) ∧
    (t.performers.has k = false → exec (.retirePerformer key) s = .next (t.turnedAway 0x03 .noSuch))) ∧
  (∀ (k : Nat) (t : State),
    let naming (src : Source) : Bool := src == .role k
    t.roleCount k =
      ((t.outputs.flatMap fun kb => kb.2.live).countP fun i => naming i.src) +
      ((t.outputs.flatMap fun kb => kb.2.pending.getD []).countP fun i => naming i.src) +
      ((t.cues.flatMap fun kc => kc.2.actions).countP fun a => match a.kind with
        | .ingredient _ src _ _ => naming src
        | _ => false) ∧
    t.performerCount k = t.roles.countP fun kr => kr.2.performer == some k) ∧
  (∀ (ch : Nat) (t : State),
    let protects (target fade : Nat) : State := t.move
      { element := .protect ch, target := target, fade := fade, owner := .protect, action := none }
    t.protectChannel ch = protects t.settings.protectDepth t.settings.protectFade ∧
    t.restoreChannel ch = protects 0 t.settings.restoreFade) ∧
  (∀ (k ch : Nat) (t : State), t.resolve k = some ch ↔ ∃ r p pack primary, t.roles.get k = some r ∧ r.performer = some p ∧
    (t.performers.get p).bind Performer.primary = some primary ∧ t.packs.get primary = some pack ∧ pack.channel = ch) ∧
  (∀ t : State, t.rebindAll = { t with outputs := t.rebindAll.outputs } ∧ t.rebindAll.outputs.keys = t.outputs.keys ∧
    ∀ (o : Nat) (b : Foldback), t.outputs.get o = some b → ∃ live : List Ingredient,
      t.rebindAll.outputs.get o = some { b with live := live } ∧
      live.length = b.live.length ∧ ∀ (n : Nat) (i : Ingredient), b.live[n]? = some i →
        let becomes (j : Ingredient) : Prop := live[n]? = some j
        ((∀ k, i.src ≠ .role k) → becomes i) ∧
        (∀ k, i.src = .role k →
          (i.channel = t.resolve k → becomes i) ∧
          (i.channel ≠ t.resolve k → t.inDark = true → becomes
            { i with channel := t.resolve k, rebind := ⟨960 * 65536, none⟩, outgoing := none }) ∧
          (i.channel ≠ t.resolve k → t.inDark = false → becomes
            { i with
              channel := t.resolve k,
              rebind := ⟨(levelGlide 0 960 20).1, some (levelGlide 0 960 20).2⟩,
              outgoing := i.channel.map fun old =>
                ⟨old, ⟨(levelGlide i.rebind.fine 0 20).1, some (levelGlide i.rebind.fine 0 20).2⟩⟩ })))

/-- WRITE of a cue, INSERT_CUE and RETIRE of a cue that are taken: the cue in its place in the list; INSERT_CUE answers the number
half-way to the successor, or the next whole number after the last cue. A latched copy of the edited number is marked stale and
STALE is raised, and the copy is else as it was; an edit of another number, or with the latch EMPTY, does not touch the latch. -/
def Obligations.CueListEdits : Prop :=
  (∀ (w : WriteReq) (n : Nat) (c : Cue) (s t : State), s.settle = t → readCueKey w.key = .ok n →
    modeTakes w.mode (t.cues.has n) = true → readCueRecord w.fields = .ok c → c.actions.all t.refsPresent = true →
    (∀ old, t.cues.get n = some old → c.actions.length ≤ t.actionsFree + old.actions.length) →
    (t.cues.get n = none → t.cues.length < 1024 ∧ c.actions.length ≤ t.actionsFree) →
    exec (.writeCue w) s = .next (State.answered 0x02 [] (State.markStale n { t with cues := t.cues.put n c }))) ∧
  (∀ (b : Body) (n h : Nat) (c : Cue) (s t : State), s.settle = t → readInsert b = .ok (n, c) →
    t.cues.has n = true → c.actions.all t.refsPresent = true →
    (t.cues.above n = none ∧ n / 100 + 1 ≠ 10000 ∧ h = (n / 100 + 1) * 100 ∨
      ∃ m x, t.cues.above n = some (m, x) ∧ h = (n + m) / 2 ∧ h ≠ n) →
    (∀ old, t.cues.get h = some old → c.actions.length ≤ t.actionsFree + old.actions.length) →
    (t.cues.get h = none → t.cues.length < 1024 ∧ c.actions.length ≤ t.actionsFree) →
    exec (.insertCue b) s =
      .next (State.answered 0x10 (putCueNumber h) (State.markStale h { t with cues := t.cues.put h c }))) ∧
  (∀ (key : Option Bytes) (n : Nat) (s t : State), s.settle = t → readCueKey key = .ok n →
    (t.cues.has n = true → exec (.retireCue key) s =
      .next (State.answered 0x03 [] (State.markStale n { t with cues := t.cues.erase n }))) ∧
    (t.cues.has n = false → exec (.retireCue key) s = .next (t.turnedAway 0x03 .noSuch))) ∧
  (∀ (n : Nat) (t : State),
    (t.cue.latch = none → t.markStale n = t) ∧
    (∀ l, t.cue.latch = some l →
      (l.number ≠ n → t.markStale n = t) ∧
      (l.number = n → t.markStale n =
        { t with
          cue := { t.cue with latch := some { l with stale := true } },
          status := { t.status with events := t.status.events ||| 32#32 } })))

/-- WRITE of FLAGS, CUE_STATE, STATUS and SETTINGS, and WRITE and RETIRE of a clip and of a pattern, that are taken: the record
as written, and nothing else; a clip that a voice holds is IN_USE. A clip or pattern with a count other than 0 is not retired but
IN_USE, and an absent one NO_SUCH. A clip's count is of the PLAY and CALL actions of the cue list, the calls, the evacuation clip
setting and the voices that name or hold it; a pattern's of the CALL actions, the calls and the evacuation pattern setting. -/
def Obligations.RecordWritesTaken : Prop :=
  (∀ (w : WriteReq) (s t : State), s.settle = t → w.key = some [] → w.mode = some 0 →
    (∀ x, readFlags t.flags w.fields = .ok x → exec (.writeFlags w) s =
      .next (State.answered 0x02 [] { t with flags := x })) ∧
    (∀ supplied, readCueState w.fields = .ok supplied → exec (.writeCueState w) s =
      .next (State.answered 0x02 []
        { t with cue := { t.cue with missed := if supplied then 0 else t.cue.missed } })) ∧
    (∀ m, readMask w.fields = .ok m → exec (.writeStatus w) s =
      .next (State.answered 0x02 []
        { t with status := { t.status with
            mask := match m with
              | none => t.status.mask
              | some x => x &&& 0x0007FFFF#32 } })) ∧
    (∀ x, readSettings t.settings w.fields = .ok x → (∀ k, x.evacClip = some k → t.clips.has k = true) →
      (∀ k, x.evacPattern = some k → t.patterns.has k = true) → exec (.writeSettings w) s =
        .next (State.answered 0x02 [] { t with settings := x }))) ∧
  (∀ (w : WriteReq) (k : Nat) (s t : State), s.settle = t →
    (∀ c, readKey 2 0 511 w.key = .ok k → modeTakes w.mode (t.clips.has k) = true → readClip w.fields = .ok c →
      (t.voices.any (fun kv => kv.2.holds k) = false → exec (.writeClip w) s =
        .next (State.answered 0x02 [] { t with clips := t.clips.put k c })) ∧
      (t.voices.any (fun kv => kv.2.holds k) = true → exec (.writeClip w) s = .next (t.turnedAway 0x02 .inUse))) ∧
    (∀ p, readKey 1 0 15 w.key = .ok k → modeTakes w.mode (t.patterns.has k) = true → readPattern w.fields = .ok p →
      exec (.writePattern w) s = .next (State.answered 0x02 [] { t with patterns := t.patterns.put k p })) ∧
    (readKey 2 0 511 w.key = .ok k → t.clips.has k = true → t.clipCount k = 0 → exec (.retireClip w.key) s =
      .next (State.answered 0x03 [] { t with clips := t.clips.erase k })) ∧
    (readKey 1 0 15 w.key = .ok k → t.patterns.has k = true → t.patternCount k = 0 → exec (.retirePattern w.key) s =
      .next (State.answered 0x03 [] { t with patterns := t.patterns.erase k })) ∧
    (readKey 2 0 511 w.key = .ok k →
      (t.clips.has k = true → t.clipCount k ≠ 0 → exec (.retireClip w.key) s = .next (t.turnedAway 0x03 .inUse)) ∧
      (t.clips.has k = false → exec (.retireClip w.key) s = .next (t.turnedAway 0x03 .noSuch))) ∧
    (readKey 1 0 15 w.key = .ok k →
      (t.patterns.has k = true → t.patternCount k ≠ 0 → exec (.retirePattern w.key) s =
        .next (t.turnedAway 0x03 .inUse)) ∧
      (t.patterns.has k = false → exec (.retirePattern w.key) s = .next (t.turnedAway 0x03 .noSuch)))) ∧
  (∀ (k : Nat) (t : State),
    let actions := (t.cues.flatMap fun kc => kc.2.actions).map Action.kind
    t.clipCount k =
      (actions.countP fun a => match a with
        | .play c _ _ _ _ _ => c == k
        | .call _ c _ _ => c == k
        | _ => false) +
      (t.relay.calls.countP fun kc => kc.2.kind == .clip (some k)) +
      (if t.settings.evacClip = some k then 1 else 0) +
      (t.voices.countP fun kv => kv.2.clip == some k || kv.2.pending.map PendingPlay.clip == some k) ∧
    t.patternCount k =
      (actions.countP fun a => match a with
        | .call _ _ p _ => p == some k
        | _ => false) +
      (t.relay.calls.countP fun kc => kc.2.pattern == some k) +
      (if t.settings.evacPattern = some k then 1 else 0))

/-- WRITE of a programme output, a foldback output and a zone, and WRITE and RETIRE of a group and RETIRE of a zone, that are
taken: the fields as written, an omitted one as it stood, and a level moved over the settings' edit glide with owner EDIT, an
omitted one left as it stands. A zone's count is of the performers, groups, status entries of calls and CALL actions that name it,
and the default call zone setting; with another count than 0 it is IN_USE. A zone created takes an omitted field's default, and
its feed level stands at once. A retired zone's slot carries 0 at once: that the sample already formed goes with it is the model's
choice (log entry 35). -/
def Obligations.OutputWritesTaken : Prop :=
  (∀ (w : WriteReq) (k : Nat) (s t : State), s.settle = t →
    (∀ label master clips, readKey 1 1 8 w.key = .ok k → w.mode = some 0 →
      readProgramme w.fields = .ok (label, master, clips) → exec (.writeProgramme w) s =
        .next (State.answered 0x02 [] (State.editIf (.programmeMaster k) master
          { t with programmes := t.programmes.update k fun x =>
            { x with label := label, clips := if clips then 0 else x.clips } }))) ∧
    (∀ x, readKey 1 1 24 w.key = .ok k → w.mode = some 0 → readFoldback w.fields = .ok x → exec (.writeFoldback w) s =
      .next (State.answered 0x02 [] (State.editIf (.foldbackMaster k) x.master
        { t with outputs := t.outputs.update k fun b =>
          { b with
            label := x.label, announce := x.announce.getD b.announce,
            duckDepth := (x.depth.map fun d => min d 480).getD b.duckDepth,
            clips := if x.clips then 0 else b.clips } }))) ∧
    (∀ x, readKey 1 1 16 w.key = .ok k → modeTakes w.mode (t.zones.has k) = true → readZone w.fields = .ok x →
      exec (.writeZone w) s =
        .next (State.answered 0x02 []
          (if t.zones.has k then State.editIf (.zoneFeed k) x.level { t with zones := t.zones.update k x.rewrite }
          else { t with zones := t.zones.put k x.create }))) ∧
    (readKey 1 1 16 w.key = .ok k → t.zones.has k = true → t.zoneCount k = 0 → exec (.retireZone w.key) s =
      .next (State.answered 0x03 []
        { (t.dropRamp (.zoneFeed k)).dropRamp (.zoneDuck k) with
          zones := t.zones.erase k, mix := { t.mix with zone := t.mix.zone.update k fun _ => 0 } })) ∧
    (readKey 1 1 16 w.key = .ok k → t.zones.has k = true → t.zoneCount k ≠ 0 →
      exec (.retireZone w.key) s = .next (t.turnedAway 0x03 .inUse)) ∧
    (readKey 1 1 16 w.key = .ok k → t.zones.has k = false →
      exec (.retireZone w.key) s = .next (t.turnedAway 0x03 .noSuch)) ∧
    (∀ label members, readKey 1 1 8 w.key = .ok k → modeTakes w.mode (t.groups.has k) = true →
      readGroup w.fields = .ok (label, members) → (∀ z ∈ members, t.zones.has z = true) → exec (.writeGroup w) s =
        .next (State.answered 0x02 []
          { t with groups := t.groups.put k ⟨label, members.foldl (fun acc z => insertOnce z acc) []⟩ })) ∧
    (readKey 1 1 8 w.key = .ok k → t.groups.has k = true → exec (.retireGroup w.key) s =
      .next (State.answered 0x03 [] { t with groups := t.groups.erase k })) ∧
    (readKey 1 1 8 w.key = .ok k → t.groups.has k = false → exec (.retireGroup w.key) s =
      .next (t.turnedAway 0x03 .noSuch))) ∧
  (∀ (z : Nat) (t : State), t.zoneCount z =
    (t.performers.countP fun kp => kp.2.room == some z) + (t.groups.countP fun kg => kg.2.members.contains z) +
    (t.relay.calls.countP fun kc => kc.2.entries.has z) +
    ((t.cues.flatMap fun kc => kc.2.actions).countP fun a => match a.kind with
      | .call target _ _ _ => target == .zone z
      | _ => false) +
    (if t.settings.defaultZone = z then 1 else 0)) ∧
  (∀ (el : Element) (level : Nat) (t : State), t.editIf el none = t ∧ t.editIf el (some level) =
    t.move { element := el, target := level, fade := t.settings.editGlide, owner := .edit, action := none }) ∧
  (∀ (x : ZoneWrite) (z : Zone),
    x.create =
      { label := x.label, feed := x.feed.getD .none, level := x.level.getD 960 * 65536, duck := 0,
        duckDepth := min (x.depth.getD 360) 480, duckFade := min (x.duckFade.getD 300) 10000,
        restoreFade := min (x.restoreFade.getD 1500) 10000, callLevel := x.callLevel.getD 960,
        floor := x.floor.getD 0, occupant := none, clips := 0 } ∧
    x.rewrite z = { z with
      label := x.label, feed := x.feed.getD z.feed, duckDepth := (x.depth.map fun d => min d 480).getD z.duckDepth,
      duckFade := (x.duckFade.map fun n => min n 10000).getD z.duckFade,
      restoreFade := (x.restoreFade.map fun n => min n 10000).getD z.restoreFade,
      callLevel := x.callLevel.getD z.callLevel, floor := x.floor.getD z.floor, clips := if x.clips then 0 else z.clips })

/-- Edits of the live and the pending recipe, and DISCARD, that are taken: a live ingredient's level moves over the settings' edit
glide with owner EDIT, a new one joining at the end at off and a retired one leaving when it reaches off; a pending edit changes
the pending recipe alone, a copy of the live one where there was none: in join order, without those that are departing, each at
its audible code. -/
def Obligations.RecipeEditsTaken : Prop :=
  (∀ (w : WriteReq) (k : RecipeKey) (level : Nat) (s t : State), s.settle = t → readIngredient w.fields = .ok level →
    t.absentRole k.src = false →
    (readLiveKey w.key = .ok k →
      modeTakes w.mode (ingredientOf (t.output k.output).live k.src).isSome = true →
      ((ingredientOf (t.output k.output).live k.src).isSome = true → exec (.writeLiveIngredient w) s =
        .next ((t.edit (.ingredient k.output k.src) level none).answered 0x02 [])) ∧
      (ingredientOf (t.output k.output).live k.src = none → (t.output k.output).live.length < 16 →
        exec (.writeLiveIngredient w) s =
          .next (State.answered 0x02 [] (State.edit (.ingredient k.output k.src) level none
            { t with outputs := t.outputs.update k.output fun b =>
              { b with live := b.live ++ [t.newIngredient k.src] } })))) ∧
    (readPendingKey w.key = .ok k →
      modeTakes w.mode ((t.sources k.output true).contains k.src) = true →
      ((t.pendingOrCopy k.output).any (·.src == k.src) = true → exec (.writePendingIngredient w) s =
        .next (State.answered 0x02 [] { t with outputs := t.outputs.update k.output fun b =>
          { b with pending := some ((t.pendingOrCopy k.output).map fun i =>
            if i.src = k.src then ⟨k.src, level⟩ else i) } })) ∧
      ((t.pendingOrCopy k.output).any (·.src == k.src) = false → (t.pendingOrCopy k.output).length < 16 →
        exec (.writePendingIngredient w) s =
          .next (State.answered 0x02 [] { t with outputs := t.outputs.update k.output fun b =>
            { b with pending := some (t.pendingOrCopy k.output ++ [⟨k.src, level⟩]) } })))) ∧
  (∀ (key : Option Bytes) (k : RecipeKey) (s t : State), s.settle = t →
    (readLiveKey key = .ok k → (ingredientOf (t.output k.output).live k.src).isSome = true →
      exec (.retireLiveIngredient key) s =
        .next ((t.edit (.ingredient k.output k.src) 0 (some (.removeIngredient k.output k.src))).answered 0x03 [])) ∧
    (readPendingKey key = .ok k → (t.pendingOrCopy k.output).any (·.src == k.src) = true →
      exec (.retirePendingIngredient key) s =
        .next (State.answered 0x03 [] { t with outputs := t.outputs.update k.output fun b =>
          { b with pending := some ((t.pendingOrCopy k.output).filter (·.src != k.src)) } }))) ∧
  (∀ (b : Body) (o : Nat) (s t : State), s.settle = t → readOne (readIn 1 24) b = .ok o →
    ((t.output o).pending ≠ none → exec (.discard b) s =
      .next (State.answered 0x29 [] { t with outputs := t.outputs.update o fun x => { x with pending := none } })) ∧
    ((t.output o).pending = none → exec (.discard b) s = .next (t.turnedAway 0x29 .noSuch))) ∧
  (∀ (el : Element) (level : Nat) (action : Option Completion) (t : State), t.edit el level action =
    t.move { element := el, target := level, fade := t.settings.editGlide, owner := .edit, action := action }) ∧
  (∀ (o : Nat) (t : State),
    (∀ p, (t.output o).pending = some p → t.pendingOrCopy o = p) ∧
    ((t.output o).pending = none →
      let leaves (i : Ingredient) : Prop :=
        ∃ e r, t.rampOn (.ingredient o i.src) = some (e, r) ∧ r.action = some (.removeIngredient o i.src)
      ∃ copied : List Ingredient, copied.Sublist (t.output o).live ∧
        (∀ i ∈ (t.output o).live, i ∈ copied ↔ ¬ leaves i) ∧
        t.pendingOrCopy o = copied.map fun i => { src := i.src, level := audible i.level })) ∧
  (∀ (src : Source) (t : State), t.newIngredient src =
    { src := src, level := 0, rebind := ⟨960 * 65536, none⟩, outgoing := none,
      channel := match src with
        | .role k => t.resolve k
        | _ => none }) ∧
  (∀ fine : Nat, audible fine = (fine + 32768) / 65536)

/-- TAKE of an output's pending recipe over the glide, the edit glide where the request omits it. Every pending ingredient is in the
live recipe and moves to its level, from off if it arrives; of the other live ones, those the size check removes are gone at once,
one that was departing keeps its ramp, and the rest move to off and then leave. A move is a ramp from where the level stands, owner
TAKE, wherever the part is not DARK, the glide is above 0 and the pool has room for them all; in DARK or over a glide of 0 each
snaps, and one that leaves is gone. The size check removes the first of the live ingredients that are not pending, in join order,
as many as bring the recipe to 16. Those that stay keep their order, those that arrive join after them, and crossfades stand. The
pending recipe is then absent, and nothing else of the output, of the show or of the ramps changes, but for the overflows counted
where the pool is full. An output with no pending recipe is refused NO_SUCH. -/
def Obligations.TakeMovesThePendingRecipeIn : Prop :=
  ∀ (b : Body) (o : Nat) (glide : Option Nat) (s t : State), s.settle = t → readTake b = .ok (o, glide) →
    ((t.output o).pending = none → exec (.take b) s = .next (t.turnedAway 0x28 .noSuch)) ∧
    (∀ p, (t.output o).pending = some p → t.rampLaw = true → t.recipeLaw = true →
      let ticks := min (glide.getD t.settings.editGlide) 600000
      let live := (t.output o).live.map Ingredient.src
      let coming := p.map PendingIngredient.src
      let arriving := coming.filter fun src => !live.contains src
      let removed := (live.filter fun src => !coming.contains src).take (live.length + arriving.length - 16)
      let el (src : Source) : Element := .ingredient o src
      ∃ u, exec (.take b) s = .next u ∧
        let now := (u.output o).live.map Ingredient.src
        let snaps (src : Source) (code : Nat) : Prop := u.rampOn (el src) = none ∧ u.fine (el src) = code * 65536
        let runs (src : Source) (code : Nat) (action : Option Completion) : Prop :=
          let start := levelGlide (t.fine (el src)) code ticks
          u.fine (el src) = start.1 ∧ ∃ e, u.rampOn (el src) =
            some (e, { element := el src, glide := start.2, owner := .take, frozen := false, action := action })
        (∀ i ∈ p, i.src ∈ now ∧ (snaps i.src i.level ∨ runs i.src i.level none)) ∧
        (∀ src ∈ live, src ∉ coming →
          (src ∈ removed → src ∉ now) ∧
          (src ∉ removed → t.departing o src = true →
            src ∈ now ∧ u.rampOn (el src) = t.rampOn (el src) ∧ u.fine (el src) = t.fine (el src)) ∧
          (src ∉ removed → t.departing o src = false →
            src ∉ now ∨ src ∈ now ∧ runs src 0 (some (.removeIngredient o src))) ∧
          (src ∉ now → u.rampOn (el src) = none)) ∧
        (t.inDark = false → 0 < ticks → t.ramps.length + 32 ≤ 128 →
          now = (live.filter fun src => !removed.contains src) ++ arriving ∧
          (∀ i ∈ p, runs i.src i.level none) ∧ u.status = t.status) ∧
        (t.inDark = true ∨ ticks = 0 →
          now = (live.filter fun src => !removed.contains src && (coming.contains src || t.departing o src)) ++ arriving ∧
          (∀ i ∈ p, snaps i.src i.level) ∧ u.status = t.status) ∧
        (∃ kept, kept.Sublist live ∧ now = kept ++ arriving) ∧ now.length ≤ 16 ∧
        (∀ i ∈ (u.output o).live,
          (i.src ∈ live → ∃ j ∈ (t.output o).live, i = { j with level := i.level }) ∧
          (i.src ∉ live → i = { t.newIngredient i.src with level := i.level })) ∧
        u.output o = { t.output o with live := (u.output o).live, pending := none } ∧
        (∀ o', o' ≠ o → u.outputs.get o' = t.outputs.get o') ∧
        (∀ other, (∀ src, other = el src → src ∉ live ∧ src ∉ coming) →
          u.rampOn other = t.rampOn other ∧ u.fine other = t.fine other) ∧
        u.status = { t.status with events := u.status.events, rampOverflow := u.status.rampOverflow } ∧
        u = { t with
          outputs := u.outputs, ramps := u.ramps, status := u.status, response := responseFrame 0x00 0x28 [] })

/-- WRITE of a control line that is taken. A line that is live neither before nor after, or that stays live with its function and
polarity, takes its fields alone. A line made live, or a live one that was not active and is given another function or polarity,
takes its debounced state at once, with no event: HOLD and PTT take the level of their lines with it. A line that was active sees
the release of its old function first: HOLD may become absent, and the call marked PTT may end. Four of these are the model's
choices: the pin level taken is the one last sampled, at a tick (log entry 18); a line that is live no more keeps its debounced
state and count (log entry 33); in DARK the HOLD line level and the PTT pressed level stand (log entry 22); and the release comes
before the new state, where only the polarity changes too (log entry 47). -/
def Obligations.LineWritesTaken : Prop :=
  ∀ (w : WriteReq) (l : Nat) (x : LineWrite) (old : Line) (s t : State), s.settle = t →
    readKey 1 1 12 w.key = .ok l → w.mode = some 0 → readLine w.fields = .ok x → t.lines.get l = some old →
    let new := x.apply old
    let leaves (u : State) : Prop := exec (.writeLine w) s = .next (u.answered 0x02 [])
    let stored (y : Line) : State := { t with lines := t.lines.update l fun _ => y }
    let joined := stored { new with active := new.pinActive old.pin, count := 0 }
    let unchanged := old.live = true ∧ new.live = true ∧ old.function = new.function ∧ old.activeLow = new.activeLow
    (unchanged ∨ old.live = false ∧ new.live = false → leaves (stored new)) ∧
    (new.live = true → ¬unchanged → old.live = false ∨ old.active = false →
      (t.inDark = true ∨ new.function ≠ .hold ∧ new.function ≠ .ptt → leaves joined) ∧
      (t.inDark = false → new.function = .hold →
        leaves (State.relamp { joined with cue := { t.cue with holdLine := joined.lineLevel .hold } })) ∧
      (t.inDark = false → new.function = .ptt →
        leaves { joined with relay := { t.relay with pttPressed := joined.lineLevel .ptt } })) ∧
    (old.live = true → new.live = false →
      (old.active = false ∨ t.inDark = true ∨ old.function ≠ .hold ∧ old.function ≠ .ptt → leaves (stored new)) ∧
      (old.active = true → t.inDark = false → old.function = .hold →
        leaves ((stored new).setHold ((stored new).lineLevel .hold) t.cue.holdRequest).relamp) ∧
      (old.active = true → t.inDark = false → old.function = .ptt → t.relay.pttPressed = true →
        ((stored new).lineLevel .ptt = true → leaves (stored new)) ∧
        ((stored new).lineLevel .ptt = false → leaves (State.endPtt
          { stored new with relay := { t.relay with pttPressed := false } })))) ∧
    (old.live = true → new.live = true → old.active = true → ¬unchanged →
      let resting := stored { new with active := false, count := 0 }
      let sampled (u : State) : State := u.setLine l fun y => { y with active := y.pinActive y.pin }
      (t.inDark = true → leaves (sampled resting)) ∧
      (t.inDark = false → ∀ left : State,
        (old.function = .hold → left = (resting.setHold (resting.lineLevel .hold) t.cue.holdRequest).relamp) →
        (old.function = .ptt → left = resting.reportPtt (resting.lineLevel .ptt)) →
        (old.function ≠ .hold → old.function ≠ .ptt → left = resting) →
        let u := sampled left
        (new.function ≠ .hold → new.function ≠ .ptt → leaves u) ∧
        (new.function = .hold →
          leaves (State.relamp { u with cue := { u.cue with holdLine := u.lineLevel .hold } })) ∧
        (new.function = .ptt → leaves { u with relay := { u.relay with pttPressed := u.lineLevel .ptt } })))

/-! ### Requests of the show -/

/-- CLEAR_STANDBY empties the latch outside DARK, whether or not it held a copy, and changes the lamp alone beside it; a fire that
then finds the latch empty takes the cue after the last-fired cue. -/
def Obligations.ClearStandbyEmptiesTheLatch : Prop :=
  ∀ s t : State, s.settle = t →
    (t.inDark = true → exec (.clearStandby (some [])) s = .next (t.turnedAway 0x12 .wrongState)) ∧
    (t.inDark = false →
      ∃ u, exec (.clearStandby (some [])) s = .next u ∧
        u = State.answered 0x12 [] (State.relamp { t with cue := { t.cue with latch := none } }) ∧
        u.cue.latch = none ∧ u.cue.lastFired = t.cue.lastFired ∧
        (∀ n c, t.cueAfterLast = some (n, c) → u.fire = (u.fireCopy (Latch.of n c), .fired n)))

/-- STANDBY, GO, HOLD and UNHOLD that are taken: a fresh copy latched; a GO by the house state, held or missed under HOLD; the
mark set or cleared, and a pending GO taken where HOLD becomes absent. HOLD and UNHOLD are refused in DARK. That STANDBY of an
absent number in DARK answers WRONG_STATE and not NO_SUCH is the model's choice (log entry 21). -/
def Obligations.CueRequestsTaken : Prop :=
  (∀ (b : Body) (n : Nat) (s t : State), s.settle = t → readOne readCue b = .ok n →
    (t.inDark = true → exec (.standby b) s = .next (t.turnedAway 0x11 .wrongState)) ∧
    (t.inDark = false → t.cues.get n = none → exec (.standby b) s = .next (t.turnedAway 0x11 .noSuch)) ∧
    (∀ c, t.inDark = false → t.cues.get n = some c → exec (.standby b) s =
      .next (State.answered 0x11 [] (State.relamp (State.examine { t with cue := { t.cue with
        latch := some { number := n, cue := c, stale := false, armed := c.trigger != .manual } } }))))) ∧
  (∀ s t : State, s.settle = t →
    (t.house.state = .preset ∨ t.house.state = .running →
      (t.holdPresent = false → exec (.go (some [])) s =
        .next (t.takeGo.1.relamp.answered 0x13 t.takeGo.2.put)) ∧
      (t.holdPresent = true → t.cue.pendingGo = false → exec (.go (some [])) s =
        .next (State.answered 0x13 [1] (State.relamp { t with cue := { t.cue with pendingGo := true } }))) ∧
      (t.holdPresent = true → t.cue.pendingGo = true → exec (.go (some [])) s =
        .next (State.answered 0x13 [2] (State.relamp (State.raise .goIgnored
          { t with cue := { t.cue with missed := min (t.cue.missed + 1) 255 } }))))) ∧
    (t.house.state = .stopped ∨ t.house.state = .evac ∨ t.house.state = .dark →
      exec (.go (some [])) s = .next (t.turnedAway 0x13 .wrongState)) ∧
    (t.inDark = true →
      exec (.hold (some [])) s = .next (t.turnedAway 0x14 .wrongState) ∧
      exec (.unhold (some [])) s = .next (t.turnedAway 0x15 .wrongState)) ∧
    (t.inDark = false →
      exec (.hold (some [])) s =
        .next (State.answered 0x14 [] (State.relamp { t with cue := { t.cue with holdRequest := true } })) ∧
      (t.cue.holdLine = true ∨ t.cue.holdRequest = false ∨ t.cue.pendingGo = false → exec (.unhold (some [])) s =
        .next (State.answered 0x15 [] (State.relamp { t with cue := { t.cue with holdRequest := false } }))) ∧
      (t.cue.holdLine = false → t.cue.holdRequest = true → t.cue.pendingGo = true → exec (.unhold (some [])) s =
        .next (State.answered 0x15 [] (State.relamp (State.takeGo
          { t with cue := { t.cue with holdRequest := false, pendingGo := false } }).1)))))

/-- A GO in RUNNING with HOLD absent and the latch FULL fires the latched copy: the last-fired pointer moves to its number, the
outcome answers that number, FIRED is raised, the dark gap starts, and no cue of the list changes. With the latch EMPTY it fires
the cue after the last-fired one, or the first; with none it answers END_OF_LIST, and a GO in PRESET enters RUNNING first. A fire
puts the copy in the lowest FREE run, collapsing the earliest where all 8 are BUSY, whose remaining actions then execute at once;
stands by the branch's target where the branch matches and the target is present, and else the successor; executes the actions of
delay 0 in list order; and frees a run with nothing left. -/
def Obligations.GoFiresTheLatchedCue : Prop :=
  (∀ (l : Latch) (s t : State), s.settle = t → t.house.state = .running → t.holdPresent = false →
    t.cue.latch = some l →
    ∃ u, exec (.go (some [])) s = .next u ∧ u.cue.lastFired = some l.number ∧ u.cue.darkGap = 1000 ∧
      u.cue.nextOrder = t.cue.nextOrder + 1 ∧ u.raised .fired = true ∧ u.cues = t.cues ∧ u.house = t.house ∧
      u.settings = t.settings ∧ u.response = responseFrame 0x00 0x13 (0 :: putCueNumber l.number)) ∧
  (∀ s t : State, s.settle = t → t.holdPresent = false →
    (t.house.state = .running →
      (∀ l, t.cue.latch = some l → exec (.go (some [])) s =
        .next ((t.fireCopy l).relamp.answered 0x13 (0 :: putCueNumber l.number))) ∧
      (t.cue.latch = none →
        (∀ n c, t.cue.lastFired = none ∧ t.cues.head? = some (n, c) ∨
            (∃ m, t.cue.lastFired = some m ∧ t.cues.above m = some (n, c)) →
          exec (.go (some [])) s = .next (State.answered 0x13 (0 :: putCueNumber n) (State.relamp (t.fireCopy
            { number := n, cue := c, stale := false, armed := c.trigger != .manual })))) ∧
        (t.cue.lastFired = none ∧ t.cues = [] ∨ (∃ m, t.cue.lastFired = some m ∧ t.cues.above m = none) →
          exec (.go (some [])) s = .next ((t.raise .endOfList).relamp.answered 0x13 [3])))) ∧
    (t.house.state = .preset → ∃ u : State,
      exec (.go (some [])) s = .next (u.fire.1.relamp.answered 0x13 u.fire.2.put) ∧
      u.house = { t.house with state := .running } ∧ u.raised .houseChanged = true ∧
      (∀ kb ∈ u.outputs, kb.2.check = .normal) ∧ u.cue = t.cue ∧ u.cues = t.cues ∧ u.flags = t.flags ∧
      u.ramps = t.ramps ∧ u.voices = t.voices ∧ u.relay = t.relay ∧ u.gens = t.checksNormal.gens)) ∧
  (∀ (l : Latch) (r : Nat) (t : State), t.cue.runs.length < 8 → 1 ≤ r → r ≤ 8 → t.cue.runs.get r = none →
    (∀ k, 1 ≤ k → k < r → t.cue.runs.get k ≠ none) →
    let follow : Follow := match l.cue.follow with
      | none => .absent
      | some w => .waiting w
    let run : Run :=
      { order := t.cue.nextOrder, number := l.number, label := l.cue.label,
        actions := l.cue.actions.map fun a => { action := a, executed := false }, elapsed := 0, follow := follow }
    let taken : State := State.raise .fired { t with cue := { t.cue with
      latch := none, runs := t.cue.runs.put r run, nextOrder := t.cue.nextOrder + 1, lastFired := some l.number,
      darkGap := 1000 } }
    let marked := (taken.autoStandby l).setRun r fun y => { y with actions := y.actions.map fun a =>
      if a.action.delay = 0 then { a with executed := true } else a }
    t.fireCopy l =
      (((l.cue.actions.filter fun a => a.delay == 0).foldl State.execute marked).freeIfFinished r).examine) ∧
  (∀ (l : Latch) (t : State),
    let stands (u : State) (next : Option (Nat × Cue)) : Prop :=
      (next = none → t.autoStandby l = u) ∧
      ∀ n c, next = some (n, c) → t.autoStandby l = State.examine { u with cue := { u.cue with
        latch := some { number := n, cue := c, stale := false, armed := c.trigger != .manual } } }
    (l.cue.branch = none → stands t (t.cues.above l.number)) ∧
    (∀ b, l.cue.branch = some b →
      (t.flags.getLsbD b.flag ≠ b.sense → stands t (t.cues.above l.number)) ∧
      (t.flags.getLsbD b.flag = b.sense →
        (∀ c, t.cues.get b.target = some c → stands t (some (b.target, c))) ∧
        (t.cues.get b.target = none → stands (t.raise .branchMissing) (t.cues.above l.number))))) ∧
  (∀ (l : Latch) (r : Nat) (x : Run) (t : State), t.runsLaw = true → 8 ≤ t.cue.runs.length →
    t.cue.runs.get r = some x → (∀ k y, k ≠ r → t.cue.runs.get k = some y → x.order < y.order) →
    let left := (x.actions.filter fun a => !a.executed).map RunAction.action
    let acted := left.foldl State.execute
      (t.setRun r fun y => { y with actions := y.actions.map fun a => { a with executed := true } })
    let collapsed := State.raise .runCollapsed { acted with cue := { t.cue with runs := t.cue.runs.erase r } }
    t.fireCopy l = collapsed.fireCopy l ∧ collapsed.cue.runs.get r = none ∧ collapsed.cue.runs.length < 8) ∧
  (∀ (r : Nat) (x : Run) (t : State), t.cue.runs.get r = some x →
    let finished : Prop := (∀ a ∈ x.actions, a.executed = true) ∧ (x.follow = .absent ∨ x.follow = .expired)
    (finished → t.freeIfFinished r = { t with cue := { t.cue with runs := t.cue.runs.erase r } }) ∧
    (¬ finished → t.freeIfFinished r = t))

/-- TIME_FRAME, PACK_REPORT, SWAP and SET_CHECK that are taken, row by row of the tables of R89 and R36, and the first two refused
in DARK. An arrival is judged against the show frame by the window and takes its frame as the time; a report moves the pack's
health, a pack that enters GOOD having its channel restored and one that enters LOST protected. SET_CHECK to TONE is IN_USE while
generator 1 serves a call pass. The first output that enters TONE puts a FREE generator 1 in LINE_CHECK, and the last that leaves
it, by a SET_CHECK or by the return of every output to NORMAL, frees it. That a report of an absent pack in DARK answers NO_SUCH
and not WRONG_STATE, and a TONE outside PRESET WRONG_STATE and not IN_USE, are the model's choices (log entry 21). -/
def Obligations.SupervisionRequestsTaken : Prop :=
  (∀ (b : Body) (f : Nat) (s t : State), s.settle = t → readOne (readIn 0 2159999) b = .ok f →
    let arrives (told : Bool) (c : Chase) : Prop := exec (.timeFrame b) s =
      .next (State.answered 0x18 [] (State.examine
        (if told then State.raise .chaseChanged { t with chase := c } else { t with chase := c })))
    let base := { t.chase with frame := f, tick := 0, silence := 0 }
    let near : Prop := f ≤ t.chase.frame + t.settings.window ∧ t.chase.frame ≤ f + t.settings.window
    let count := min (t.chase.count + 1) 64
    (t.inDark = true → exec (.timeFrame b) s = .next (t.turnedAway 0x18 .wrongState)) ∧
    (t.inDark = false →
      (t.chase.state = .absent → arrives true { base with state := .acquiring, count := 1 }) ∧
      (t.chase.state = .acquiring →
        (near → 2 ^ (t.settings.qualifyIndex + 1) ≤ count → arrives true { base with state := .locked, count := count }) ∧
        (near → count < 2 ^ (t.settings.qualifyIndex + 1) → arrives false { base with count := count }) ∧
        (¬near → arrives false { base with count := 1 })) ∧
      (t.chase.state = .locked →
        (near → arrives false { base with count := count }) ∧
        (¬near → arrives true { base with state := .acquiring, count := 1 })) ∧
      (t.chase.state = .freewheel →
        (near → arrives true { base with state := .locked, count := count, freewheel := 0 }) ∧
        (¬near → arrives true { base with state := .acquiring, count := 1, freewheel := 0 })))) ∧
  (∀ (b : Body) (p rf battery : Nat) (s t : State), s.settle = t → readReport b = .ok (p, rf, battery) →
    (t.packs.get p = none → exec (.packReport b) s = .next (t.turnedAway 0x20 .noSuch)) ∧
    (∀ k, t.packs.get p = some k →
      (t.inDark = true → exec (.packReport b) s = .next (t.turnedAway 0x20 .wrongState)) ∧
      (t.inDark = false →
        let warning := decide (min battery 1023 < t.settings.batteryThreshold)
        let heard := { t with packs := t.packs.update p fun x =>
          { x with rf := some (min rf 15), battery := some (min battery 1023), age := 0, warning := warning } }
        let told := if k.warning = warning then heard else heard.raise .packChanged
        let sound : Prop := t.settings.rfFloor ≤ min rf 15 ∧ 0 < battery
        let moves (health : Health) (progress : Nat) : State := told.setPack p fun x =>
          { x with health := health, progress := progress }
        let guard (target fade : Nat) (u : State) : State := u.move
          { element := .protect k.channel, target := target, fade := fade, owner := .protect, action := none }
        let leaves (u : State) : Prop := exec (.packReport b) s = .next (u.answered 0x20 [])
        let well (progress : Nat) : State :=
          guard 0 t.settings.restoreFade (State.raise .packChanged (moves .good progress))
        (sound →
          (k.health = .unknown ∨ k.health = .lost →
            (t.settings.qualifyCount ≤ 1 → leaves (well 1)) ∧
            (1 < t.settings.qualifyCount → leaves (State.raise .packChanged (moves .qualifying 1)))) ∧
          (k.health = .qualifying →
            (t.settings.qualifyCount ≤ k.progress + 1 → leaves (well (k.progress + 1))) ∧
            (k.progress + 1 < t.settings.qualifyCount → leaves (moves .qualifying (k.progress + 1)))) ∧
          (k.health = .good → leaves told)) ∧
        (¬sound →
          (k.health = .lost → leaves told) ∧
          (k.health ≠ .lost → leaves
            ((guard t.settings.protectDepth t.settings.protectFade
              (State.raise .packChanged (moves .lost 0))).autoSwap p)))))) ∧
  (∀ (b : Body) (k : Nat) (s t : State), s.settle = t → readOne (readIn 0 127) b = .ok k →
    (t.performers.get k = none → exec (.swap b) s = .next (t.turnedAway 0x21 .noSuch)) ∧
    (∀ p, t.performers.get k = some p →
      (p.spare = none → exec (.swap b) s = .next (t.turnedAway 0x21 .badField)) ∧
      (p.spare ≠ none → exec (.swap b) s =
        .next (State.answered 0x21 [] (State.rebindAll (State.raise .swapped
          { t with performers := t.performers.update k fun x =>
            { x with primary := x.spare, spare := x.primary } })))))) ∧
  (∀ (b : Body) (o : Nat) (c : CheckState) (s t : State), s.settle = t → readCheck b = .ok (o, c) →
    (t.house.state ≠ .preset → exec (.setCheck b) s = .next (t.turnedAway 0x2A .wrongState)) ∧
    (t.house.state = .preset → c = .tone → (t.gen 1).use = .chime →
      exec (.setCheck b) s = .next (t.turnedAway 0x2A .inUse)) ∧
    (t.house.state = .preset → c ≠ .tone ∨ (t.gen 1).use ≠ .chime → exec (.setCheck b) s =
      .next (State.answered 0x2A [] (State.lineCheck
        { t with outputs := t.outputs.update o fun x => { x with check := c } })))) ∧
  (∀ t : State,
    let tone : Prop := ∃ kb ∈ t.outputs, kb.2.check = .tone
    let freed : Table Generator := t.gens.update 1 fun _ =>
      { use := .free, call := none, pattern := none, shadow := none, part := .mark, phase := 0, step := 0,
        secondary := false, count := 0, cyclesDone := 0, restsDone := 0, output := 0 }
    let normal := t.outputs.mapRecords fun _ x => { x with check := .normal }
    (tone → (t.gen 1).use = .free → t.lineCheck =
      { t with gens := t.gens.update 1 fun g => { g with use := .lineCheck, phase := 4194304, step := 349525 } }) ∧
    (tone → (t.gen 1).use ≠ .free → t.lineCheck = t) ∧
    (¬ tone → (t.gen 1).use = .lineCheck → t.lineCheck = { t with gens := freed }) ∧
    (¬ tone → (t.gen 1).use ≠ .lineCheck → t.lineCheck = t) ∧
    ((t.gen 1).use = .lineCheck → t.checksNormal = { t with outputs := normal, gens := freed }) ∧
    ((t.gen 1).use ≠ .lineCheck → t.checksNormal = { t with outputs := normal }))

/-- PLACE_CALL that is taken enters the call with the next free id above the last issued, 255 followed by 1, the next creation
order and one entry a zone, SKIPPED where the zone's floor is above the priority, and arbitrates. Its zones are those that its
targets give, ascending, each once. An absent clip or pattern, a target that gives no zone and a set of no zones refuse it
NO_SUCH, in every house state. END_CALL and CANCEL_CALL act on a present call that is not the evacuation call, which refuses them
WRONG_STATE; an absent id is NO_SUCH. A cancelled call leaves its zones as at an entry to CLOSING, its WAITING zones are MISSED,
and it retires at once; an arbitration follows. -/
def Obligations.CallRequests : Prop :=
  (∀ (b : Body) (c : CallSpec) (s t : State), s.settle = t → readPlaceCall b = .ok c →
    (∃ k, c.kind = .clip (some k) ∧ t.clips.has k = false) ∨ (∃ k, c.pattern = some k ∧ t.patterns.has k = false) ∨
      (∃ e, t.zoneSet c.targets = .error e) ∨ t.zoneSet c.targets = .ok [] →
    exec (.placeCall b) s = .next (t.turnedAway 0x30 .noSuch)) ∧
  (∀ (b : Body) (c : CallSpec) (zones : List Nat) (s t : State), s.settle = t → readPlaceCall b = .ok c →
    (∀ k, c.kind = .clip k → ∃ n, k = some n ∧ t.clips.has n = true) →
    (∀ k, c.pattern = some k → t.patterns.has k = true) → t.zoneSet c.targets = .ok zones → zones ≠ [] →
    (t.inDark = true → exec (.placeCall b) s = .next (t.turnedAway 0x30 .wrongState)) ∧
    (t.inDark = false → 24 ≤ t.relay.calls.length → exec (.placeCall b) s = .next (t.turnedAway 0x30 .full)) ∧
    (t.inDark = false → t.relay.calls.length < 24 → exec (.placeCall b) s =
      .next (((t.addCall c false zones).arbitrate (some t.nextId)).answered 0x30 [byteOf t.nextId]))) ∧
  (∀ (b : Body) (key : Option Bytes) (id : Nat) (s t : State), s.settle = t →
    (readOne (readIn 1 255) b = .ok id →
      (t.call id = none → exec (.endCall b) s = .next (t.turnedAway 0x31 .noSuch)) ∧
      (∀ c, t.call id = some c → c.evac = true → exec (.endCall b) s = .next (t.turnedAway 0x31 .wrongState)) ∧
      (∀ c, t.call id = some c → c.evac = false → exec (.endCall b) s =
        .next ((t.endCallNow id).answered 0x31 []))) ∧
    (readKey 1 1 255 key = .ok id →
      (t.call id = none → exec (.cancelCall key) s = .next (t.turnedAway 0x03 .noSuch)) ∧
      (∀ c, t.call id = some c → c.evac = true → exec (.cancelCall key) s = .next (t.turnedAway 0x03 .wrongState)) ∧
      (∀ c, t.call id = some c → c.evac = false → exec (.cancelCall key) s =
        .next ((t.cancelNow id).answered 0x03 [])))) ∧
  (∀ t : State, t.relay.calls.length ≤ 24 → ∃ i, i < 255 ∧ t.nextId = (t.relay.lastId + i) % 255 + 1 ∧
    t.call t.nextId = none ∧ ∀ j, j < i → t.call ((t.relay.lastId + j) % 255 + 1) ≠ none) ∧
  (∀ (c : CallSpec) (evac : Bool) (zones : List Nat) (t : State),
    t.addCall c evac zones = { t with relay := { t.relay with
      lastId := t.nextId, orderCount := t.relay.orderCount + 1,
      calls := t.relay.calls.put t.nextId
        { priority := c.priority, kind := c.kind, pattern := c.pattern, order := t.relay.orderCount + 1,
          entries := zones.map fun z =>
            (z, if z ≠ 0 ∧ c.priority < ((t.zones.get z).map Zone.floor).getD 0 then .skipped else .waiting),
          phase := .idle, timer := 0, voice := .none, gen := none, liveTime := 0, ptt := c.ptt, evac := evac,
          cut := false } } }) ∧
  (∀ t : State,
    let gives (g : Target) (zs : List Nat) : Prop := t.targetZones g = .ok zs
    let fails (g : Target) : Prop := t.targetZones g = .error .noSuch
    let room (g : Target) (z : Nat) : Prop :=
      (t.zones.has z = true → gives g [z]) ∧ (t.zones.has z = false → fails g)
    (∀ z, room (.zone z) z) ∧
    (∀ g, (t.groups.get g = none → fails (.group g)) ∧ ∀ x, t.groups.get g = some x → gives (.group g) x.members) ∧
    (∀ k, (t.performers.get k = none → fails (.performer k)) ∧
      ∀ p, t.performers.get k = some p → room (.performer k) (p.room.getD t.settings.defaultZone)) ∧
    (∀ k, (t.roles.get k = none → fails (.role k)) ∧
      ∀ r, t.roles.get k = some r →
        (∀ p, r.performer.bind t.performers.get = some p → room (.role k) (p.room.getD t.settings.defaultZone)) ∧
        (r.performer.bind t.performers.get = none → room (.role k) t.settings.defaultZone)) ∧
    gives .all t.zones.keys ∧ gives .stage [0] ∧
    (∀ targets zones, t.zoneSet targets = .ok zones → zones.Pairwise (· < ·) ∧
      (∀ g ∈ targets, ∃ zs, gives g zs) ∧ ∀ z, z ∈ zones ↔ ∃ g ∈ targets, ∃ zs, gives g zs ∧ z ∈ zs) ∧
    (∀ targets e, t.zoneSet targets = .error e → e = .noSuch ∧ ∃ g ∈ targets, fails g)) ∧
  (∀ (id : Nat) (c : Call) (t : State), t.call id = some c →
    let leaves (u : State) : State :=
      (((u.setCall id fun x => x.turn .waiting .missed).retireCall id).unqueue (.closingEnd id)).arbitrate none
    (c.phase = .opening ∨ c.phase = .chime ∨ c.phase = .message → t.cancelNow id = leaves (t.enterClosing id)) ∧
    (c.phase = .idle ∨ c.phase = .closing → t.cancelNow id = leaves t) ∧
    (t.relay.calls.sorted = true → (t.cancelNow id).call id = none))

/-- The house's requests: each is taken in the states that take it, and refused WRONG_STATE in the others. -/
def Obligations.HouseRequests : Prop :=
  ∀ s t : State, s.settle = t →
    exec (.stopShow (some [])) s =
      .next (if t.house.state = .running then t.stopNow.answered 0x38 [] else t.turnedAway 0x38 .wrongState) ∧
    exec (.resume (some [])) s =
      .next (if t.house.state = .stopped then t.resumeNow.answered 0x39 [] else t.turnedAway 0x39 .wrongState) ∧
    exec (.endShow (some [])) s =
      .next (if t.house.state = .running ∨ t.house.state = .stopped then t.endNow.answered 0x3A []
        else t.turnedAway 0x3A .wrongState) ∧
    exec (.evac (some [])) s =
      .next (if t.house.state = .evac then t.turnedAway 0x3B .wrongState else t.evacNow.answered 0x3B []) ∧
    exec (.clearEvac (some [])) s =
      .next (if t.house.state = .evac ∧ t.lineLevel .evac = false then t.clearEvacNow.answered 0x3C []
        else t.turnedAway 0x3C .wrongState) ∧
    exec (.dark (some [])) s =
      .next (if t.house.state = .preset ∧ t.relay.calls = [] ∧ t.voicesBusy = 0 then t.darkNow.answered 0x3D []
        else t.turnedAway 0x3D .wrongState) ∧
    exec (.wake (some [])) s =
      .next (if t.house.state = .dark then t.wakeNow.answered 0x3E [] else t.turnedAway 0x3E .wrongState) ∧
    exec (.restartAudio (some [])) s =
      .next (if t.house.state = .preset then t.audioRestart.relamp.answered 0x3F [] else t.turnedAway 0x3F .wrongState)

/-- What the house's requests do where they are taken. STOP_SHOW parks the show and holds the stop context from 0: a CUE-owned
voice that plays is PAUSED with none of its tail sounded and a close request to its gate, and one that is CLOSING for a steal
holds its place. RESUME frees the ramps and the voices and ends the checks; a voice whose gate has closed for a steal begins its
pending playback, with the move held for it (which of several such moves snap in a nearly full pool is left open: log entry 38).
END_SHOW discards the runs and a pending GO, and from STOPPED the frozen ramps and the parked voices too. EVAC, waking the part
from DARK first, parks it, its voices as STOP_SHOW does, and gives the evacuation call every zone and the stage. CLEAR_EVAC sends
that call to CLOSING. DARK completes every ramp. WAKE and RESTART_AUDIO complete every ramp with what it performs at its end,
clear the running activity, and keep the records, the settings, the counters and the event flags, but for the changes they report
themselves: every field of a zone but its duck and occupant and of an output but its stage duck and check state, a pack's channel,
and each recipe without its departing ingredients, the others with their channels, at the levels their ramps were to reach. A
pending GO is discarded with GO_IGNORED at STOP_SHOW, at END_SHOW from RUNNING and at DARK, and the lamp is OFF after STOP_SHOW,
EVAC and DARK. WAKE takes the HOLD line level and the PTT pressed level afresh from their lines by R196, the levels in DARK being
as log entry 22 reads them; that a refill in flight is gone once the house is in DARK is the model's reading of R112 (log entry
23). -/
def Obligations.HouseTransitions : Prop :=
  (∀ x : Voice,
    (x.owner = .cue → x.state = .playing → x.park = { x with state := .paused, tail := 0, gate := x.gate.close }) ∧
    (x.owner = .cue → x.state = .closing → x.cause ≠ some .ending → x.park = { x with tail := 0 }) ∧
    (x.owner ≠ .cue ∨ x.state = .paused ∨ x.state = .idle ∨ x.state = .closing ∧ x.cause = some .ending → x.park = x)) ∧
  (∀ s t : State, s.settle = t → t.house.state = .running →
    ∃ u, exec (.stopShow (some [])) s = .next u ∧
      u.house = { t.house with state := .stopped, held := true, heldTime := 0 } ∧
      (∀ er ∈ u.ramps, er.2.owner = .cue → er.2.frozen = true) ∧
      (u.ramps.map fun er => (er.1, er.2.element, er.2.glide)) = (t.ramps.map fun er => (er.1, er.2.element, er.2.glide)) ∧
      u.voices = t.voices.mapRecords (fun _ x => x.park) ∧ u.cue.pendingGo = false ∧
      (t.cue.pendingGo = true → u.raised .goIgnored = true) ∧ u.raised .houseChanged = true ∧ u.cue.lamp = .off ∧
      u.cue.runs = t.cue.runs ∧ u.cue.latch = t.cue.latch ∧ u.relay = t.relay ∧ u.packs = t.packs ∧
      u.outputs = t.outputs ∧ u.zones = t.zones ∧ u.chase = t.chase ∧ u.cues = t.cues) ∧
  (∀ s t : State, s.settle = t → t.house.state = .stopped → t.rampLaw = true → t.standing = true → t.heldMoveLaw = true →
    ∃ u, exec (.resume (some [])) s = .next u ∧ u.house = { t.house with state := .running, held := false } ∧
      u.raised .houseChanged = true ∧ (∀ er ∈ u.ramps, er.2.frozen = false) ∧
      (∀ e r, t.ramps.get e = some r → (∀ v, r.element ≠ .voice v) → u.ramps.get e = some { r with frozen := false }) ∧
      (∀ v x, t.voices.get v = some x →
        (x.owner ≠ .cue ∨ x.state = .playing ∨ x.state = .idle → u.voices.get v = some x) ∧
        (x.owner = .cue → x.state = .paused →
          u.voices.get v = some { x with state := .playing, tail := 0, gate := x.gate.open }) ∧
        (x.owner = .cue → x.state = .closing → x.gate.state ≠ .closed →
          u.voices.get v = some { x with tail := if x.cause = some .ending then x.tail else 0 }) ∧
        (x.owner = .cue → x.state = .closing → x.gate.state = .closed →
          (x.cause = some .ending ∨ x.cause = some .steal ∧ x.pending = none → t.voiceUnit.waiting = [] →
            ∃ y, u.voices.get v = some y ∧ y.state = .idle) ∧
          (∀ p, x.cause = some .steal → x.pending = some p →
            (∀ m, p.held = some m → m.action = none ∨ 0 < m.fade ∧ t.ramps.length + 16 ≤ 128) →
            ∃ y, u.voices.get v = some y ∧
              y = { x with
                state := .playing, owner := p.owner, clip := some p.clip, position := 0, loops := p.loops, level := y.level,
                gate := ⟨.opened, ⟨960 * 65536, none⟩⟩, route := p.route, primed := false, buffer := [],
                cursor := ⟨0, p.loops⟩, pending := none, cause := none, tail := 0, requested := y.requested } ∧
              (∀ c, t.clips.get p.clip = some c → 0 < c.length → y.requested = true) ∧
              (p.held = none → y.level = 0 ∧ u.rampOn (.voice v) = none) ∧
              (∀ m, p.held = some m →
                (u.rampOn (.voice v) = none ∧ y.level = m.target * 65536 ∨
                  y.level = (levelGlide 0 m.target (min m.fade 600000)).1 ∧
                  ∃ e, u.rampOn (.voice v) = some (e,
                    { element := .voice v, glide := (levelGlide 0 m.target (min m.fade 600000)).2, owner := m.owner,
                      frozen := false, action := m.action })) ∧
                (0 < m.fade → t.ramps.length + 16 ≤ 128 → u.rampOn (.voice v) ≠ none))))) ∧
      (u.outputs.mapRecords fun _ b => { b with check := .normal }) = u.outputs ∧ u.gens = t.checksNormal.gens ∧
      u.cue = { t.cue with lamp := u.cue.lamp, lit := u.cue.lit, flashCount := u.cue.flashCount } ∧
      u.chase = t.chase ∧ u.packs = t.packs ∧ u.zones = t.zones ∧ u.cues = t.cues) ∧
  (∀ s t : State, s.settle = t → t.house.state = .running →
    ∃ u, exec (.endShow (some [])) s = .next u ∧ u.house = { t.house with state := .preset } ∧
      u.raised .houseChanged = true ∧ u.cue.runs = [] ∧ u.cue.pendingGo = false ∧
      (t.cue.pendingGo = true → u.raised .goIgnored = true) ∧ u.ramps = t.ramps ∧ u.voices = t.voices ∧
      u.relay = t.relay ∧ u.outputs = t.outputs ∧ u.zones = t.zones ∧ u.cue.latch = t.cue.latch ∧
      u.cue.lastFired = t.cue.lastFired ∧ u.cue.holdRequest = t.cue.holdRequest ∧ u.cue.missed = t.cue.missed) ∧
  (∀ s t : State, s.settle = t → t.house.state = .stopped → t.rampLaw = true → t.standing = true →
    ∃ u, exec (.endShow (some [])) s = .next u ∧ u.house = { t.house with state := .preset, held := false } ∧
      u.raised .houseChanged = true ∧ u.cue.runs = [] ∧ u.cue.pendingGo = false ∧ u.cue.latch = t.cue.latch ∧
      u.cue.lastFired = t.cue.lastFired ∧ u.cue.holdRequest = t.cue.holdRequest ∧ u.cue.missed = t.cue.missed ∧
      (∀ er ∈ u.ramps, er.2.frozen = false) ∧
      (∀ e r, t.ramps.get e = some r → (∀ v, r.element ≠ .voice v) →
        (r.frozen = false → u.ramps.get e = some r ∧ u.fine r.element = t.fine r.element) ∧
        (r.frozen = true → u.rampOn r.element = none ∧ u.fine r.element = audible (t.fine r.element) * 65536)) ∧
      (∀ v x, t.voices.get v = some x → x.owner = .cue → x.state = .paused ∨ x.state = .closing →
        ∃ y, u.voices.get v = some y ∧
          (x.gate.state ≠ .closed → y.state = .closing ∧ y.cause = some .ending ∧
            (x.state = .closing → y.pending = none)) ∧
          (x.gate.state = .closed → t.voiceUnit.waiting = [] → y.state = .idle))) ∧
  (∀ s t : State, s.settle = t → t.house.state ≠ .evac → t.occupancyLaw = true →
    (∀ id c, t.call id = some c → c.priority < 3 ∨ c.phase = .closing) → (∀ kz ∈ t.zones, kz.2.floor ≤ 3) →
    ∃ u, exec (.evac (some [])) s = .next u ∧ u.house.state = .evac ∧
      u.house.held = (t.house.held || t.house.state != .stopped) ∧
      u.raised .houseChanged = true ∧ u.cue.lamp = .off ∧
      (u.outputs.mapRecords fun _ b => { b with check := .normal }) = u.outputs ∧
      (t.house.state = .stopped → u.house.heldTime = t.house.heldTime) ∧
      (t.house.state ≠ .stopped → u.house.heldTime = 0 ∧ u.cue.pendingGo = false ∧
        (∀ er ∈ u.ramps, er.2.owner = .cue → er.2.frozen = true)) ∧
      (t.house.state = .dark → u.house.tickDiv = 0 ∧ u.cue.latch = none ∧ ∀ v x, u.voices.get v = some x → x.state = .idle) ∧
      (t.house.state ≠ .dark → ∀ v x, t.voices.get v = some x → (∀ id, x.owner ≠ .call id) →
        u.voices.get v = some (if t.house.state = .stopped then x else x.park)) ∧
      ∃ id c, u.call id = some c ∧ c.evac = true ∧ c.priority = 3 ∧ c.phase = .opening ∧
        c.kind = .clip t.settings.evacClip ∧ c.pattern = t.settings.evacPattern ∧
        ∀ z, z = 0 ∨ t.zones.has z = true → c.entries.get z = some .active ∧ u.occupant z = some ⟨id, 3⟩) ∧
  (∀ s t : State, s.settle = t → t.house.state = .evac → t.lineLevel .evac = false → t.occupancyLaw = true →
    ∃ u, exec (.clearEvac (some [])) s = .next u ∧ u.house = { t.house with state := .stopped } ∧
      u.raised .houseChanged = true ∧ u.cue.latch = t.cue.latch ∧ u.cue.runs = t.cue.runs ∧ u.chase = t.chase ∧
      (∀ id c, t.call id = some c → c.evac = true → ∃ x, u.call id = some x ∧ x.phase = .closing ∧
        (∀ z, x.entries.get z ≠ some .active) ∧ ∀ z, u.occupant z ≠ some ⟨id, c.priority⟩)) ∧
  (∀ s t : State, s.settle = t → t.mayDarken = true → t.rampLaw = true →
    ∃ u, exec (.dark (some [])) s = .next u ∧ u.house = { t.house with state := .dark } ∧
      u.raised .houseChanged = true ∧ u.cue.lamp = .off ∧ u.cue.pendingGo = false ∧
      (t.cue.pendingGo = true → u.raised .goIgnored = true) ∧ u.ramps = [] ∧ u.voiceUnit.refill = none ∧
      (∀ e r, t.ramps.get e = some r → (∀ f, (State.setFine r.element f t).fine r.element = f) →
        (∀ o src, r.element = .ingredient o src → ∀ er ∈ t.ramps, er.2.action ≠ some (.removeIngredient o src)) →
        u.fine r.element = if r.glide.offAtEnd then 0 else r.glide.target) ∧
      (∀ kb ∈ u.outputs, ∀ i ∈ kb.2.live, i.outgoing = none) ∧
      u.cue.latch = t.cue.latch ∧ u.flags = t.flags ∧ u.packs = t.packs ∧ u.chase = t.chase) ∧
  (∀ s t : State, s.settle = t → t.house.state = .dark ∨ t.house.state = .preset →
    let request : Instr := if t.house.state = .dark then .wake (some []) else .restartAudio (some [])
    ∃ u, exec request s = .next u ∧ u.atRestart = true ∧ u.house.state = .preset ∧
      (t.house.state = .dark → u.house.tickDiv = 0 ∧ u.raised .houseChanged = true ∧
        u.cue.holdLine = t.lineLevel .hold ∧ u.relay.pttPressed = t.lineLevel .ptt) ∧
      (t.house.state = .preset → u.house.tickDiv = t.house.tickDiv ∧ u.raised .houseChanged = t.raised .houseChanged) ∧
      u.roles = t.roles ∧ u.performers = t.performers ∧ u.cues = t.cues ∧ u.flags = t.flags ∧ u.clips = t.clips ∧
      u.groups = t.groups ∧ u.patterns = t.patterns ∧ u.lines = t.lines ∧ u.settings = t.settings ∧ u.clock = t.clock ∧
      u.packs = (t.packs.mapRecords fun _ k =>
        { k with health := .unknown, rf := none, battery := none, warning := false, progress := 0, age := 0 }) ∧
      (u.zones.mapRecords fun _ z => { z with level := 0 }) =
        (t.zones.mapRecords fun _ z => { z with level := 0, duck := 0, occupant := none }) ∧
      (u.programmes.mapRecords fun _ x => { x with master := 0 }) =
        (t.programmes.mapRecords fun _ x => { x with master := 0 }) ∧
      (u.outputs.mapRecords fun _ b => { b with master := 0, live := [] }) =
        (t.outputs.mapRecords fun _ b => { b with master := 0, live := [], duck := 0, check := .normal }) ∧
      (let leaves (o : Nat) (src : Source) : Bool := t.ramps.any fun er => er.2.action == some (.removeIngredient o src)
      let stays (el : Element) : Prop := (∃ z, el = .zoneFeed z) ∨ (∃ p, el = .programmeMaster p) ∨
        (∃ o, el = .foldbackMaster o) ∨ ∃ o src, el = .ingredient o src ∧ leaves o src = false
      (∀ o b, t.outputs.get o = some b → ∃ c, u.outputs.get o = some c ∧
        (c.live.map fun i => (i.src, i.channel, i.rebind, i.outgoing)) =
          ((b.live.filter fun i => !leaves o i.src).map fun i => (i.src, i.channel, i.rebind.finish, none))) ∧
      (∀ el, stays el → t.rampOn el = none → u.fine el = t.fine el) ∧
      (t.rampLaw = true → ∀ e r, t.ramps.get e = some r → stays r.element →
        (∀ f, (State.setFine r.element f t).fine r.element = f) →
        u.fine r.element = if r.glide.offAtEnd then 0 else r.glide.target)) ∧
      u.relay.lastId = t.relay.lastId ∧ u.relay.orderCount = t.relay.orderCount ∧
      (t.house.state = .preset → u.cue.holdLine = t.cue.holdLine ∧ u.relay.pttPressed = t.relay.pttPressed) ∧
      u.status = { t.status with events := u.status.events } ∧
      (∀ f, f ≠ .packChanged → f ≠ .chaseChanged → f ≠ .houseChanged → u.raised f = t.raised f) ∧
      u.raised .packChanged =
        (t.raised .packChanged || t.packs.any fun kp => kp.2.health != .unknown || kp.2.warning) ∧
      u.raised .chaseChanged = (t.raised .chaseChanged || t.chase.state != .absent))

/-! ### Laws that every step keeps -/

/-- Every step keeps the ramp pool's law: entries 0 to 127, and at most one ramp on an element. -/
def Obligations.RampPoolLawKept : Prop := ∀ s t : State, s.rampLaw = true → step s = .next t → t.rampLaw = true

/-- Every step keeps the cue list's law: cues strictly ascending, at most 1024, at most 32 actions each and 8192 in all. -/
def Obligations.CueListLawKept : Prop := ∀ s t : State, s.cueListLaw = true → step s = .next t → t.cueListLaw = true

/-- Every step keeps the status unit's law and the records that exist at all times. -/
def Obligations.StatusAndStandingKept : Prop :=
  ∀ s t : State, step s = .next t →
    (s.statusLaw = true → t.statusLaw = true) ∧ (s.standing = true → t.standing = true)

/-- Every step keeps the lamp as its conditions give it, or the end of the dark gap due, and at most 8 BUSY runs, each a number of
1 to 8 once. -/
def Obligations.CueEngineLawsKept : Prop :=
  ∀ s t : State, step s = .next t → (s.lampLaw = true → t.lampLaw = true) ∧ (s.runsLaw = true → t.runsLaw = true)

/-- Every step keeps the cast table's law: no pack is named twice, what is named is present, and a channel has one pack. -/
def Obligations.CastLawKept : Prop := ∀ s t : State, s.castLaw = true → step s = .next t → t.castLaw = true

/-- Every step keeps the recipes' law: in a live and in a pending recipe no source stands twice and at most 16 stand. -/
def Obligations.RecipeLawKept : Prop := ∀ s t : State, s.recipeLaw = true → step s = .next t → t.recipeLaw = true

/-- Every step keeps the buffers' law: at most 256 samples, and room for the refill that is asked for or in flight; and a move held
with a voice's pending playback is one of that voice's level, with no completion but a stop of that voice. -/
def Obligations.BufferLawKept : Prop :=
  ∀ s t : State, step s = .next t →
    (s.bufferLaw = true → t.bufferLaw = true) ∧ (s.heldMoveLaw = true → t.heldMoveLaw = true)

/-- Every step keeps the law of zones and calls: at most 24 calls, at most one occupant a zone, and an occupant is the call whose
entry for the zone is ACTIVE. -/
def Obligations.OccupancyLawKept : Prop := ∀ s t : State, s.occupancyLaw = true → step s = .next t → t.occupancyLaw = true
end

