-- ==== Sys2Proof/Laws/State.lean ====
section
/-! SUPPORT. One lemma per field per update of the state, so that no later proof unfolds a record update. -/

namespace Sys2Proof.Machine

variable (s : State)

@[simp] theorem State.setVoice_ramps (v : Nat) (f : Voice → Voice) : (s.setVoice v f).ramps = s.ramps := rfl
@[simp] theorem State.setVoice_protect (v : Nat) (f : Voice → Voice) : (s.setVoice v f).protect = s.protect := rfl
@[simp] theorem State.setVoice_roles (v : Nat) (f : Voice → Voice) : (s.setVoice v f).roles = s.roles := rfl
@[simp] theorem State.setVoice_performers (v : Nat) (f : Voice → Voice) : (s.setVoice v f).performers = s.performers := rfl
@[simp] theorem State.setVoice_packs (v : Nat) (f : Voice → Voice) : (s.setVoice v f).packs = s.packs := rfl
@[simp] theorem State.setVoice_cues (v : Nat) (f : Voice → Voice) : (s.setVoice v f).cues = s.cues := rfl
@[simp] theorem State.setVoice_flags (v : Nat) (f : Voice → Voice) : (s.setVoice v f).flags = s.flags := rfl
@[simp] theorem State.setVoice_cue (v : Nat) (f : Voice → Voice) : (s.setVoice v f).cue = s.cue := rfl
@[simp] theorem State.setVoice_chase (v : Nat) (f : Voice → Voice) : (s.setVoice v f).chase = s.chase := rfl
@[simp] theorem State.setVoice_clips (v : Nat) (f : Voice → Voice) : (s.setVoice v f).clips = s.clips := rfl
@[simp] theorem State.setVoice_voices (v : Nat) (f : Voice → Voice) : (s.setVoice v f).voices = s.voices.update v f := rfl
@[simp] theorem State.setVoice_voiceUnit (v : Nat) (f : Voice → Voice) : (s.setVoice v f).voiceUnit = s.voiceUnit := rfl
@[simp] theorem State.setVoice_programmes (v : Nat) (f : Voice → Voice) : (s.setVoice v f).programmes = s.programmes := rfl
@[simp] theorem State.setVoice_outputs (v : Nat) (f : Voice → Voice) : (s.setVoice v f).outputs = s.outputs := rfl
@[simp] theorem State.setVoice_zones (v : Nat) (f : Voice → Voice) : (s.setVoice v f).zones = s.zones := rfl
@[simp] theorem State.setVoice_groups (v : Nat) (f : Voice → Voice) : (s.setVoice v f).groups = s.groups := rfl
@[simp] theorem State.setVoice_relay (v : Nat) (f : Voice → Voice) : (s.setVoice v f).relay = s.relay := rfl
@[simp] theorem State.setVoice_patterns (v : Nat) (f : Voice → Voice) : (s.setVoice v f).patterns = s.patterns := rfl
@[simp] theorem State.setVoice_gens (v : Nat) (f : Voice → Voice) : (s.setVoice v f).gens = s.gens := rfl
@[simp] theorem State.setVoice_house (v : Nat) (f : Voice → Voice) : (s.setVoice v f).house = s.house := rfl
@[simp] theorem State.setVoice_clock (v : Nat) (f : Voice → Voice) : (s.setVoice v f).clock = s.clock := rfl
@[simp] theorem State.setVoice_status (v : Nat) (f : Voice → Voice) : (s.setVoice v f).status = s.status := rfl
@[simp] theorem State.setVoice_lines (v : Nat) (f : Voice → Voice) : (s.setVoice v f).lines = s.lines := rfl
@[simp] theorem State.setVoice_settings (v : Nat) (f : Voice → Voice) : (s.setVoice v f).settings = s.settings := rfl
@[simp] theorem State.setVoice_response (v : Nat) (f : Voice → Voice) : (s.setVoice v f).response = s.response := rfl
@[simp] theorem State.setVoice_mix (v : Nat) (f : Voice → Voice) : (s.setVoice v f).mix = s.mix := rfl
@[simp] theorem State.setVoice_ports (v : Nat) (f : Voice → Voice) : (s.setVoice v f).ports = s.ports := rfl
@[simp] theorem State.setVoice_agenda (v : Nat) (f : Voice → Voice) : (s.setVoice v f).agenda = s.agenda := rfl
@[simp] theorem State.setVoice_pending (v : Nat) (f : Voice → Voice) : (s.setVoice v f).pending = s.pending := rfl

@[simp] theorem State.setOutput_ramps (o : Nat) (f : Foldback → Foldback) : (s.setOutput o f).ramps = s.ramps := rfl
@[simp] theorem State.setOutput_protect (o : Nat) (f : Foldback → Foldback) : (s.setOutput o f).protect = s.protect := rfl
@[simp] theorem State.setOutput_roles (o : Nat) (f : Foldback → Foldback) : (s.setOutput o f).roles = s.roles := rfl
@[simp] theorem State.setOutput_performers (o : Nat) (f : Foldback → Foldback) : (s.setOutput o f).performers = s.performers := rfl
@[simp] theorem State.setOutput_packs (o : Nat) (f : Foldback → Foldback) : (s.setOutput o f).packs = s.packs := rfl
@[simp] theorem State.setOutput_cues (o : Nat) (f : Foldback → Foldback) : (s.setOutput o f).cues = s.cues := rfl
@[simp] theorem State.setOutput_flags (o : Nat) (f : Foldback → Foldback) : (s.setOutput o f).flags = s.flags := rfl
@[simp] theorem State.setOutput_cue (o : Nat) (f : Foldback → Foldback) : (s.setOutput o f).cue = s.cue := rfl
@[simp] theorem State.setOutput_chase (o : Nat) (f : Foldback → Foldback) : (s.setOutput o f).chase = s.chase := rfl
@[simp] theorem State.setOutput_clips (o : Nat) (f : Foldback → Foldback) : (s.setOutput o f).clips = s.clips := rfl
@[simp] theorem State.setOutput_voices (o : Nat) (f : Foldback → Foldback) : (s.setOutput o f).voices = s.voices := rfl
@[simp] theorem State.setOutput_voiceUnit (o : Nat) (f : Foldback → Foldback) : (s.setOutput o f).voiceUnit = s.voiceUnit := rfl
@[simp] theorem State.setOutput_programmes (o : Nat) (f : Foldback → Foldback) : (s.setOutput o f).programmes = s.programmes := rfl
@[simp] theorem State.setOutput_outputs (o : Nat) (f : Foldback → Foldback) : (s.setOutput o f).outputs = s.outputs.update o f := rfl
@[simp] theorem State.setOutput_zones (o : Nat) (f : Foldback → Foldback) : (s.setOutput o f).zones = s.zones := rfl
@[simp] theorem State.setOutput_groups (o : Nat) (f : Foldback → Foldback) : (s.setOutput o f).groups = s.groups := rfl
@[simp] theorem State.setOutput_relay (o : Nat) (f : Foldback → Foldback) : (s.setOutput o f).relay = s.relay := rfl
@[simp] theorem State.setOutput_patterns (o : Nat) (f : Foldback → Foldback) : (s.setOutput o f).patterns = s.patterns := rfl
@[simp] theorem State.setOutput_gens (o : Nat) (f : Foldback → Foldback) : (s.setOutput o f).gens = s.gens := rfl
@[simp] theorem State.setOutput_house (o : Nat) (f : Foldback → Foldback) : (s.setOutput o f).house = s.house := rfl
@[simp] theorem State.setOutput_clock (o : Nat) (f : Foldback → Foldback) : (s.setOutput o f).clock = s.clock := rfl
@[simp] theorem State.setOutput_status (o : Nat) (f : Foldback → Foldback) : (s.setOutput o f).status = s.status := rfl
@[simp] theorem State.setOutput_lines (o : Nat) (f : Foldback → Foldback) : (s.setOutput o f).lines = s.lines := rfl
@[simp] theorem State.setOutput_settings (o : Nat) (f : Foldback → Foldback) : (s.setOutput o f).settings = s.settings := rfl
@[simp] theorem State.setOutput_response (o : Nat) (f : Foldback → Foldback) : (s.setOutput o f).response = s.response := rfl
@[simp] theorem State.setOutput_mix (o : Nat) (f : Foldback → Foldback) : (s.setOutput o f).mix = s.mix := rfl
@[simp] theorem State.setOutput_ports (o : Nat) (f : Foldback → Foldback) : (s.setOutput o f).ports = s.ports := rfl
@[simp] theorem State.setOutput_agenda (o : Nat) (f : Foldback → Foldback) : (s.setOutput o f).agenda = s.agenda := rfl
@[simp] theorem State.setOutput_pending (o : Nat) (f : Foldback → Foldback) : (s.setOutput o f).pending = s.pending := rfl

@[simp] theorem State.setProgramme_ramps (p : Nat) (f : Programme → Programme) : (s.setProgramme p f).ramps = s.ramps := rfl
@[simp] theorem State.setProgramme_protect (p : Nat) (f : Programme → Programme) : (s.setProgramme p f).protect = s.protect := rfl
@[simp] theorem State.setProgramme_roles (p : Nat) (f : Programme → Programme) : (s.setProgramme p f).roles = s.roles := rfl
@[simp] theorem State.setProgramme_performers (p : Nat) (f : Programme → Programme) : (s.setProgramme p f).performers = s.performers := rfl
@[simp] theorem State.setProgramme_packs (p : Nat) (f : Programme → Programme) : (s.setProgramme p f).packs = s.packs := rfl
@[simp] theorem State.setProgramme_cues (p : Nat) (f : Programme → Programme) : (s.setProgramme p f).cues = s.cues := rfl
@[simp] theorem State.setProgramme_flags (p : Nat) (f : Programme → Programme) : (s.setProgramme p f).flags = s.flags := rfl
@[simp] theorem State.setProgramme_cue (p : Nat) (f : Programme → Programme) : (s.setProgramme p f).cue = s.cue := rfl
@[simp] theorem State.setProgramme_chase (p : Nat) (f : Programme → Programme) : (s.setProgramme p f).chase = s.chase := rfl
@[simp] theorem State.setProgramme_clips (p : Nat) (f : Programme → Programme) : (s.setProgramme p f).clips = s.clips := rfl
@[simp] theorem State.setProgramme_voices (p : Nat) (f : Programme → Programme) : (s.setProgramme p f).voices = s.voices := rfl
@[simp] theorem State.setProgramme_voiceUnit (p : Nat) (f : Programme → Programme) : (s.setProgramme p f).voiceUnit = s.voiceUnit := rfl
@[simp] theorem State.setProgramme_programmes (p : Nat) (f : Programme → Programme) : (s.setProgramme p f).programmes = s.programmes.update p f := rfl
@[simp] theorem State.setProgramme_outputs (p : Nat) (f : Programme → Programme) : (s.setProgramme p f).outputs = s.outputs := rfl
@[simp] theorem State.setProgramme_zones (p : Nat) (f : Programme → Programme) : (s.setProgramme p f).zones = s.zones := rfl
@[simp] theorem State.setProgramme_groups (p : Nat) (f : Programme → Programme) : (s.setProgramme p f).groups = s.groups := rfl
@[simp] theorem State.setProgramme_relay (p : Nat) (f : Programme → Programme) : (s.setProgramme p f).relay = s.relay := rfl
@[simp] theorem State.setProgramme_patterns (p : Nat) (f : Programme → Programme) : (s.setProgramme p f).patterns = s.patterns := rfl
@[simp] theorem State.setProgramme_gens (p : Nat) (f : Programme → Programme) : (s.setProgramme p f).gens = s.gens := rfl
@[simp] theorem State.setProgramme_house (p : Nat) (f : Programme → Programme) : (s.setProgramme p f).house = s.house := rfl
@[simp] theorem State.setProgramme_clock (p : Nat) (f : Programme → Programme) : (s.setProgramme p f).clock = s.clock := rfl
@[simp] theorem State.setProgramme_status (p : Nat) (f : Programme → Programme) : (s.setProgramme p f).status = s.status := rfl
@[simp] theorem State.setProgramme_lines (p : Nat) (f : Programme → Programme) : (s.setProgramme p f).lines = s.lines := rfl
@[simp] theorem State.setProgramme_settings (p : Nat) (f : Programme → Programme) : (s.setProgramme p f).settings = s.settings := rfl
@[simp] theorem State.setProgramme_response (p : Nat) (f : Programme → Programme) : (s.setProgramme p f).response = s.response := rfl
@[simp] theorem State.setProgramme_mix (p : Nat) (f : Programme → Programme) : (s.setProgramme p f).mix = s.mix := rfl
@[simp] theorem State.setProgramme_ports (p : Nat) (f : Programme → Programme) : (s.setProgramme p f).ports = s.ports := rfl
@[simp] theorem State.setProgramme_agenda (p : Nat) (f : Programme → Programme) : (s.setProgramme p f).agenda = s.agenda := rfl
@[simp] theorem State.setProgramme_pending (p : Nat) (f : Programme → Programme) : (s.setProgramme p f).pending = s.pending := rfl

@[simp] theorem State.setZone_ramps (z : Nat) (f : Zone → Zone) : (s.setZone z f).ramps = s.ramps := rfl
@[simp] theorem State.setZone_protect (z : Nat) (f : Zone → Zone) : (s.setZone z f).protect = s.protect := rfl
@[simp] theorem State.setZone_roles (z : Nat) (f : Zone → Zone) : (s.setZone z f).roles = s.roles := rfl
@[simp] theorem State.setZone_performers (z : Nat) (f : Zone → Zone) : (s.setZone z f).performers = s.performers := rfl
@[simp] theorem State.setZone_packs (z : Nat) (f : Zone → Zone) : (s.setZone z f).packs = s.packs := rfl
@[simp] theorem State.setZone_cues (z : Nat) (f : Zone → Zone) : (s.setZone z f).cues = s.cues := rfl
@[simp] theorem State.setZone_flags (z : Nat) (f : Zone → Zone) : (s.setZone z f).flags = s.flags := rfl
@[simp] theorem State.setZone_cue (z : Nat) (f : Zone → Zone) : (s.setZone z f).cue = s.cue := rfl
@[simp] theorem State.setZone_chase (z : Nat) (f : Zone → Zone) : (s.setZone z f).chase = s.chase := rfl
@[simp] theorem State.setZone_clips (z : Nat) (f : Zone → Zone) : (s.setZone z f).clips = s.clips := rfl
@[simp] theorem State.setZone_voices (z : Nat) (f : Zone → Zone) : (s.setZone z f).voices = s.voices := rfl
@[simp] theorem State.setZone_voiceUnit (z : Nat) (f : Zone → Zone) : (s.setZone z f).voiceUnit = s.voiceUnit := rfl
@[simp] theorem State.setZone_programmes (z : Nat) (f : Zone → Zone) : (s.setZone z f).programmes = s.programmes := rfl
@[simp] theorem State.setZone_outputs (z : Nat) (f : Zone → Zone) : (s.setZone z f).outputs = s.outputs := rfl
@[simp] theorem State.setZone_zones (z : Nat) (f : Zone → Zone) : (s.setZone z f).zones = s.zones.update z f := rfl
@[simp] theorem State.setZone_groups (z : Nat) (f : Zone → Zone) : (s.setZone z f).groups = s.groups := rfl
@[simp] theorem State.setZone_relay (z : Nat) (f : Zone → Zone) : (s.setZone z f).relay = s.relay := rfl
@[simp] theorem State.setZone_patterns (z : Nat) (f : Zone → Zone) : (s.setZone z f).patterns = s.patterns := rfl
@[simp] theorem State.setZone_gens (z : Nat) (f : Zone → Zone) : (s.setZone z f).gens = s.gens := rfl
@[simp] theorem State.setZone_house (z : Nat) (f : Zone → Zone) : (s.setZone z f).house = s.house := rfl
@[simp] theorem State.setZone_clock (z : Nat) (f : Zone → Zone) : (s.setZone z f).clock = s.clock := rfl
@[simp] theorem State.setZone_status (z : Nat) (f : Zone → Zone) : (s.setZone z f).status = s.status := rfl
@[simp] theorem State.setZone_lines (z : Nat) (f : Zone → Zone) : (s.setZone z f).lines = s.lines := rfl
@[simp] theorem State.setZone_settings (z : Nat) (f : Zone → Zone) : (s.setZone z f).settings = s.settings := rfl
@[simp] theorem State.setZone_response (z : Nat) (f : Zone → Zone) : (s.setZone z f).response = s.response := rfl
@[simp] theorem State.setZone_mix (z : Nat) (f : Zone → Zone) : (s.setZone z f).mix = s.mix := rfl
@[simp] theorem State.setZone_ports (z : Nat) (f : Zone → Zone) : (s.setZone z f).ports = s.ports := rfl
@[simp] theorem State.setZone_agenda (z : Nat) (f : Zone → Zone) : (s.setZone z f).agenda = s.agenda := rfl
@[simp] theorem State.setZone_pending (z : Nat) (f : Zone → Zone) : (s.setZone z f).pending = s.pending := rfl

@[simp] theorem State.setPack_ramps (p : Nat) (f : Pack → Pack) : (s.setPack p f).ramps = s.ramps := rfl
@[simp] theorem State.setPack_protect (p : Nat) (f : Pack → Pack) : (s.setPack p f).protect = s.protect := rfl
@[simp] theorem State.setPack_roles (p : Nat) (f : Pack → Pack) : (s.setPack p f).roles = s.roles := rfl
@[simp] theorem State.setPack_performers (p : Nat) (f : Pack → Pack) : (s.setPack p f).performers = s.performers := rfl
@[simp] theorem State.setPack_packs (p : Nat) (f : Pack → Pack) : (s.setPack p f).packs = s.packs.update p f := rfl
@[simp] theorem State.setPack_cues (p : Nat) (f : Pack → Pack) : (s.setPack p f).cues = s.cues := rfl
@[simp] theorem State.setPack_flags (p : Nat) (f : Pack → Pack) : (s.setPack p f).flags = s.flags := rfl
@[simp] theorem State.setPack_cue (p : Nat) (f : Pack → Pack) : (s.setPack p f).cue = s.cue := rfl
@[simp] theorem State.setPack_chase (p : Nat) (f : Pack → Pack) : (s.setPack p f).chase = s.chase := rfl
@[simp] theorem State.setPack_clips (p : Nat) (f : Pack → Pack) : (s.setPack p f).clips = s.clips := rfl
@[simp] theorem State.setPack_voices (p : Nat) (f : Pack → Pack) : (s.setPack p f).voices = s.voices := rfl
@[simp] theorem State.setPack_voiceUnit (p : Nat) (f : Pack → Pack) : (s.setPack p f).voiceUnit = s.voiceUnit := rfl
@[simp] theorem State.setPack_programmes (p : Nat) (f : Pack → Pack) : (s.setPack p f).programmes = s.programmes := rfl
@[simp] theorem State.setPack_outputs (p : Nat) (f : Pack → Pack) : (s.setPack p f).outputs = s.outputs := rfl
@[simp] theorem State.setPack_zones (p : Nat) (f : Pack → Pack) : (s.setPack p f).zones = s.zones := rfl
@[simp] theorem State.setPack_groups (p : Nat) (f : Pack → Pack) : (s.setPack p f).groups = s.groups := rfl
@[simp] theorem State.setPack_relay (p : Nat) (f : Pack → Pack) : (s.setPack p f).relay = s.relay := rfl
@[simp] theorem State.setPack_patterns (p : Nat) (f : Pack → Pack) : (s.setPack p f).patterns = s.patterns := rfl
@[simp] theorem State.setPack_gens (p : Nat) (f : Pack → Pack) : (s.setPack p f).gens = s.gens := rfl
@[simp] theorem State.setPack_house (p : Nat) (f : Pack → Pack) : (s.setPack p f).house = s.house := rfl
@[simp] theorem State.setPack_clock (p : Nat) (f : Pack → Pack) : (s.setPack p f).clock = s.clock := rfl
@[simp] theorem State.setPack_status (p : Nat) (f : Pack → Pack) : (s.setPack p f).status = s.status := rfl
@[simp] theorem State.setPack_lines (p : Nat) (f : Pack → Pack) : (s.setPack p f).lines = s.lines := rfl
@[simp] theorem State.setPack_settings (p : Nat) (f : Pack → Pack) : (s.setPack p f).settings = s.settings := rfl
@[simp] theorem State.setPack_response (p : Nat) (f : Pack → Pack) : (s.setPack p f).response = s.response := rfl
@[simp] theorem State.setPack_mix (p : Nat) (f : Pack → Pack) : (s.setPack p f).mix = s.mix := rfl
@[simp] theorem State.setPack_ports (p : Nat) (f : Pack → Pack) : (s.setPack p f).ports = s.ports := rfl
@[simp] theorem State.setPack_agenda (p : Nat) (f : Pack → Pack) : (s.setPack p f).agenda = s.agenda := rfl
@[simp] theorem State.setPack_pending (p : Nat) (f : Pack → Pack) : (s.setPack p f).pending = s.pending := rfl

@[simp] theorem State.setCall_ramps (c : Nat) (f : Call → Call) : (s.setCall c f).ramps = s.ramps := rfl
@[simp] theorem State.setCall_protect (c : Nat) (f : Call → Call) : (s.setCall c f).protect = s.protect := rfl
@[simp] theorem State.setCall_roles (c : Nat) (f : Call → Call) : (s.setCall c f).roles = s.roles := rfl
@[simp] theorem State.setCall_performers (c : Nat) (f : Call → Call) : (s.setCall c f).performers = s.performers := rfl
@[simp] theorem State.setCall_packs (c : Nat) (f : Call → Call) : (s.setCall c f).packs = s.packs := rfl
@[simp] theorem State.setCall_cues (c : Nat) (f : Call → Call) : (s.setCall c f).cues = s.cues := rfl
@[simp] theorem State.setCall_flags (c : Nat) (f : Call → Call) : (s.setCall c f).flags = s.flags := rfl
@[simp] theorem State.setCall_cue (c : Nat) (f : Call → Call) : (s.setCall c f).cue = s.cue := rfl
@[simp] theorem State.setCall_chase (c : Nat) (f : Call → Call) : (s.setCall c f).chase = s.chase := rfl
@[simp] theorem State.setCall_clips (c : Nat) (f : Call → Call) : (s.setCall c f).clips = s.clips := rfl
@[simp] theorem State.setCall_voices (c : Nat) (f : Call → Call) : (s.setCall c f).voices = s.voices := rfl
@[simp] theorem State.setCall_voiceUnit (c : Nat) (f : Call → Call) : (s.setCall c f).voiceUnit = s.voiceUnit := rfl
@[simp] theorem State.setCall_programmes (c : Nat) (f : Call → Call) : (s.setCall c f).programmes = s.programmes := rfl
@[simp] theorem State.setCall_outputs (c : Nat) (f : Call → Call) : (s.setCall c f).outputs = s.outputs := rfl
@[simp] theorem State.setCall_zones (c : Nat) (f : Call → Call) : (s.setCall c f).zones = s.zones := rfl
@[simp] theorem State.setCall_groups (c : Nat) (f : Call → Call) : (s.setCall c f).groups = s.groups := rfl
@[simp] theorem State.setCall_relay (c : Nat) (f : Call → Call) : (s.setCall c f).relay = { s.relay with calls := s.relay.calls.update c f } := rfl
@[simp] theorem State.setCall_patterns (c : Nat) (f : Call → Call) : (s.setCall c f).patterns = s.patterns := rfl
@[simp] theorem State.setCall_gens (c : Nat) (f : Call → Call) : (s.setCall c f).gens = s.gens := rfl
@[simp] theorem State.setCall_house (c : Nat) (f : Call → Call) : (s.setCall c f).house = s.house := rfl
@[simp] theorem State.setCall_clock (c : Nat) (f : Call → Call) : (s.setCall c f).clock = s.clock := rfl
@[simp] theorem State.setCall_status (c : Nat) (f : Call → Call) : (s.setCall c f).status = s.status := rfl
@[simp] theorem State.setCall_lines (c : Nat) (f : Call → Call) : (s.setCall c f).lines = s.lines := rfl
@[simp] theorem State.setCall_settings (c : Nat) (f : Call → Call) : (s.setCall c f).settings = s.settings := rfl
@[simp] theorem State.setCall_response (c : Nat) (f : Call → Call) : (s.setCall c f).response = s.response := rfl
@[simp] theorem State.setCall_mix (c : Nat) (f : Call → Call) : (s.setCall c f).mix = s.mix := rfl
@[simp] theorem State.setCall_ports (c : Nat) (f : Call → Call) : (s.setCall c f).ports = s.ports := rfl
@[simp] theorem State.setCall_agenda (c : Nat) (f : Call → Call) : (s.setCall c f).agenda = s.agenda := rfl
@[simp] theorem State.setCall_pending (c : Nat) (f : Call → Call) : (s.setCall c f).pending = s.pending := rfl

@[simp] theorem State.setGen_ramps (g : Nat) (f : Generator → Generator) : (s.setGen g f).ramps = s.ramps := rfl
@[simp] theorem State.setGen_protect (g : Nat) (f : Generator → Generator) : (s.setGen g f).protect = s.protect := rfl
@[simp] theorem State.setGen_roles (g : Nat) (f : Generator → Generator) : (s.setGen g f).roles = s.roles := rfl
@[simp] theorem State.setGen_performers (g : Nat) (f : Generator → Generator) : (s.setGen g f).performers = s.performers := rfl
@[simp] theorem State.setGen_packs (g : Nat) (f : Generator → Generator) : (s.setGen g f).packs = s.packs := rfl
@[simp] theorem State.setGen_cues (g : Nat) (f : Generator → Generator) : (s.setGen g f).cues = s.cues := rfl
@[simp] theorem State.setGen_flags (g : Nat) (f : Generator → Generator) : (s.setGen g f).flags = s.flags := rfl
@[simp] theorem State.setGen_cue (g : Nat) (f : Generator → Generator) : (s.setGen g f).cue = s.cue := rfl
@[simp] theorem State.setGen_chase (g : Nat) (f : Generator → Generator) : (s.setGen g f).chase = s.chase := rfl
@[simp] theorem State.setGen_clips (g : Nat) (f : Generator → Generator) : (s.setGen g f).clips = s.clips := rfl
@[simp] theorem State.setGen_voices (g : Nat) (f : Generator → Generator) : (s.setGen g f).voices = s.voices := rfl
@[simp] theorem State.setGen_voiceUnit (g : Nat) (f : Generator → Generator) : (s.setGen g f).voiceUnit = s.voiceUnit := rfl
@[simp] theorem State.setGen_programmes (g : Nat) (f : Generator → Generator) : (s.setGen g f).programmes = s.programmes := rfl
@[simp] theorem State.setGen_outputs (g : Nat) (f : Generator → Generator) : (s.setGen g f).outputs = s.outputs := rfl
@[simp] theorem State.setGen_zones (g : Nat) (f : Generator → Generator) : (s.setGen g f).zones = s.zones := rfl
@[simp] theorem State.setGen_groups (g : Nat) (f : Generator → Generator) : (s.setGen g f).groups = s.groups := rfl
@[simp] theorem State.setGen_relay (g : Nat) (f : Generator → Generator) : (s.setGen g f).relay = s.relay := rfl
@[simp] theorem State.setGen_patterns (g : Nat) (f : Generator → Generator) : (s.setGen g f).patterns = s.patterns := rfl
@[simp] theorem State.setGen_gens (g : Nat) (f : Generator → Generator) : (s.setGen g f).gens = s.gens.update g f := rfl
@[simp] theorem State.setGen_house (g : Nat) (f : Generator → Generator) : (s.setGen g f).house = s.house := rfl
@[simp] theorem State.setGen_clock (g : Nat) (f : Generator → Generator) : (s.setGen g f).clock = s.clock := rfl
@[simp] theorem State.setGen_status (g : Nat) (f : Generator → Generator) : (s.setGen g f).status = s.status := rfl
@[simp] theorem State.setGen_lines (g : Nat) (f : Generator → Generator) : (s.setGen g f).lines = s.lines := rfl
@[simp] theorem State.setGen_settings (g : Nat) (f : Generator → Generator) : (s.setGen g f).settings = s.settings := rfl
@[simp] theorem State.setGen_response (g : Nat) (f : Generator → Generator) : (s.setGen g f).response = s.response := rfl
@[simp] theorem State.setGen_mix (g : Nat) (f : Generator → Generator) : (s.setGen g f).mix = s.mix := rfl
@[simp] theorem State.setGen_ports (g : Nat) (f : Generator → Generator) : (s.setGen g f).ports = s.ports := rfl
@[simp] theorem State.setGen_agenda (g : Nat) (f : Generator → Generator) : (s.setGen g f).agenda = s.agenda := rfl
@[simp] theorem State.setGen_pending (g : Nat) (f : Generator → Generator) : (s.setGen g f).pending = s.pending := rfl

@[simp] theorem State.setRun_ramps (r : Nat) (f : Run → Run) : (s.setRun r f).ramps = s.ramps := rfl
@[simp] theorem State.setRun_protect (r : Nat) (f : Run → Run) : (s.setRun r f).protect = s.protect := rfl
@[simp] theorem State.setRun_roles (r : Nat) (f : Run → Run) : (s.setRun r f).roles = s.roles := rfl
@[simp] theorem State.setRun_performers (r : Nat) (f : Run → Run) : (s.setRun r f).performers = s.performers := rfl
@[simp] theorem State.setRun_packs (r : Nat) (f : Run → Run) : (s.setRun r f).packs = s.packs := rfl
@[simp] theorem State.setRun_cues (r : Nat) (f : Run → Run) : (s.setRun r f).cues = s.cues := rfl
@[simp] theorem State.setRun_flags (r : Nat) (f : Run → Run) : (s.setRun r f).flags = s.flags := rfl
@[simp] theorem State.setRun_cue (r : Nat) (f : Run → Run) : (s.setRun r f).cue = { s.cue with runs := s.cue.runs.update r f } := rfl
@[simp] theorem State.setRun_chase (r : Nat) (f : Run → Run) : (s.setRun r f).chase = s.chase := rfl
@[simp] theorem State.setRun_clips (r : Nat) (f : Run → Run) : (s.setRun r f).clips = s.clips := rfl
@[simp] theorem State.setRun_voices (r : Nat) (f : Run → Run) : (s.setRun r f).voices = s.voices := rfl
@[simp] theorem State.setRun_voiceUnit (r : Nat) (f : Run → Run) : (s.setRun r f).voiceUnit = s.voiceUnit := rfl
@[simp] theorem State.setRun_programmes (r : Nat) (f : Run → Run) : (s.setRun r f).programmes = s.programmes := rfl
@[simp] theorem State.setRun_outputs (r : Nat) (f : Run → Run) : (s.setRun r f).outputs = s.outputs := rfl
@[simp] theorem State.setRun_zones (r : Nat) (f : Run → Run) : (s.setRun r f).zones = s.zones := rfl
@[simp] theorem State.setRun_groups (r : Nat) (f : Run → Run) : (s.setRun r f).groups = s.groups := rfl
@[simp] theorem State.setRun_relay (r : Nat) (f : Run → Run) : (s.setRun r f).relay = s.relay := rfl
@[simp] theorem State.setRun_patterns (r : Nat) (f : Run → Run) : (s.setRun r f).patterns = s.patterns := rfl
@[simp] theorem State.setRun_gens (r : Nat) (f : Run → Run) : (s.setRun r f).gens = s.gens := rfl
@[simp] theorem State.setRun_house (r : Nat) (f : Run → Run) : (s.setRun r f).house = s.house := rfl
@[simp] theorem State.setRun_clock (r : Nat) (f : Run → Run) : (s.setRun r f).clock = s.clock := rfl
@[simp] theorem State.setRun_status (r : Nat) (f : Run → Run) : (s.setRun r f).status = s.status := rfl
@[simp] theorem State.setRun_lines (r : Nat) (f : Run → Run) : (s.setRun r f).lines = s.lines := rfl
@[simp] theorem State.setRun_settings (r : Nat) (f : Run → Run) : (s.setRun r f).settings = s.settings := rfl
@[simp] theorem State.setRun_response (r : Nat) (f : Run → Run) : (s.setRun r f).response = s.response := rfl
@[simp] theorem State.setRun_mix (r : Nat) (f : Run → Run) : (s.setRun r f).mix = s.mix := rfl
@[simp] theorem State.setRun_ports (r : Nat) (f : Run → Run) : (s.setRun r f).ports = s.ports := rfl
@[simp] theorem State.setRun_agenda (r : Nat) (f : Run → Run) : (s.setRun r f).agenda = s.agenda := rfl
@[simp] theorem State.setRun_pending (r : Nat) (f : Run → Run) : (s.setRun r f).pending = s.pending := rfl

@[simp] theorem State.setLine_ramps (l : Nat) (f : Line → Line) : (s.setLine l f).ramps = s.ramps := rfl
@[simp] theorem State.setLine_protect (l : Nat) (f : Line → Line) : (s.setLine l f).protect = s.protect := rfl
@[simp] theorem State.setLine_roles (l : Nat) (f : Line → Line) : (s.setLine l f).roles = s.roles := rfl
@[simp] theorem State.setLine_performers (l : Nat) (f : Line → Line) : (s.setLine l f).performers = s.performers := rfl
@[simp] theorem State.setLine_packs (l : Nat) (f : Line → Line) : (s.setLine l f).packs = s.packs := rfl
@[simp] theorem State.setLine_cues (l : Nat) (f : Line → Line) : (s.setLine l f).cues = s.cues := rfl
@[simp] theorem State.setLine_flags (l : Nat) (f : Line → Line) : (s.setLine l f).flags = s.flags := rfl
@[simp] theorem State.setLine_cue (l : Nat) (f : Line → Line) : (s.setLine l f).cue = s.cue := rfl
@[simp] theorem State.setLine_chase (l : Nat) (f : Line → Line) : (s.setLine l f).chase = s.chase := rfl
@[simp] theorem State.setLine_clips (l : Nat) (f : Line → Line) : (s.setLine l f).clips = s.clips := rfl
@[simp] theorem State.setLine_voices (l : Nat) (f : Line → Line) : (s.setLine l f).voices = s.voices := rfl
@[simp] theorem State.setLine_voiceUnit (l : Nat) (f : Line → Line) : (s.setLine l f).voiceUnit = s.voiceUnit := rfl
@[simp] theorem State.setLine_programmes (l : Nat) (f : Line → Line) : (s.setLine l f).programmes = s.programmes := rfl
@[simp] theorem State.setLine_outputs (l : Nat) (f : Line → Line) : (s.setLine l f).outputs = s.outputs := rfl
@[simp] theorem State.setLine_zones (l : Nat) (f : Line → Line) : (s.setLine l f).zones = s.zones := rfl
@[simp] theorem State.setLine_groups (l : Nat) (f : Line → Line) : (s.setLine l f).groups = s.groups := rfl
@[simp] theorem State.setLine_relay (l : Nat) (f : Line → Line) : (s.setLine l f).relay = s.relay := rfl
@[simp] theorem State.setLine_patterns (l : Nat) (f : Line → Line) : (s.setLine l f).patterns = s.patterns := rfl
@[simp] theorem State.setLine_gens (l : Nat) (f : Line → Line) : (s.setLine l f).gens = s.gens := rfl
@[simp] theorem State.setLine_house (l : Nat) (f : Line → Line) : (s.setLine l f).house = s.house := rfl
@[simp] theorem State.setLine_clock (l : Nat) (f : Line → Line) : (s.setLine l f).clock = s.clock := rfl
@[simp] theorem State.setLine_status (l : Nat) (f : Line → Line) : (s.setLine l f).status = s.status := rfl
@[simp] theorem State.setLine_lines (l : Nat) (f : Line → Line) : (s.setLine l f).lines = s.lines.update l f := rfl
@[simp] theorem State.setLine_settings (l : Nat) (f : Line → Line) : (s.setLine l f).settings = s.settings := rfl
@[simp] theorem State.setLine_response (l : Nat) (f : Line → Line) : (s.setLine l f).response = s.response := rfl
@[simp] theorem State.setLine_mix (l : Nat) (f : Line → Line) : (s.setLine l f).mix = s.mix := rfl
@[simp] theorem State.setLine_ports (l : Nat) (f : Line → Line) : (s.setLine l f).ports = s.ports := rfl
@[simp] theorem State.setLine_agenda (l : Nat) (f : Line → Line) : (s.setLine l f).agenda = s.agenda := rfl
@[simp] theorem State.setLine_pending (l : Nat) (f : Line → Line) : (s.setLine l f).pending = s.pending := rfl

@[simp] theorem State.setIngredient_ramps (o : Nat) (src : Source) (f : Ingredient → Ingredient) : (s.setIngredient o src f).ramps = s.ramps := rfl
@[simp] theorem State.setIngredient_protect (o : Nat) (src : Source) (f : Ingredient → Ingredient) : (s.setIngredient o src f).protect = s.protect := rfl
@[simp] theorem State.setIngredient_roles (o : Nat) (src : Source) (f : Ingredient → Ingredient) : (s.setIngredient o src f).roles = s.roles := rfl
@[simp] theorem State.setIngredient_performers (o : Nat) (src : Source) (f : Ingredient → Ingredient) : (s.setIngredient o src f).performers = s.performers := rfl
@[simp] theorem State.setIngredient_packs (o : Nat) (src : Source) (f : Ingredient → Ingredient) : (s.setIngredient o src f).packs = s.packs := rfl
@[simp] theorem State.setIngredient_cues (o : Nat) (src : Source) (f : Ingredient → Ingredient) : (s.setIngredient o src f).cues = s.cues := rfl
@[simp] theorem State.setIngredient_flags (o : Nat) (src : Source) (f : Ingredient → Ingredient) : (s.setIngredient o src f).flags = s.flags := rfl
@[simp] theorem State.setIngredient_cue (o : Nat) (src : Source) (f : Ingredient → Ingredient) : (s.setIngredient o src f).cue = s.cue := rfl
@[simp] theorem State.setIngredient_chase (o : Nat) (src : Source) (f : Ingredient → Ingredient) : (s.setIngredient o src f).chase = s.chase := rfl
@[simp] theorem State.setIngredient_clips (o : Nat) (src : Source) (f : Ingredient → Ingredient) : (s.setIngredient o src f).clips = s.clips := rfl
@[simp] theorem State.setIngredient_voices (o : Nat) (src : Source) (f : Ingredient → Ingredient) : (s.setIngredient o src f).voices = s.voices := rfl
@[simp] theorem State.setIngredient_voiceUnit (o : Nat) (src : Source) (f : Ingredient → Ingredient) : (s.setIngredient o src f).voiceUnit = s.voiceUnit := rfl
@[simp] theorem State.setIngredient_programmes (o : Nat) (src : Source) (f : Ingredient → Ingredient) : (s.setIngredient o src f).programmes = s.programmes := rfl
@[simp] theorem State.setIngredient_outputs (o : Nat) (src : Source) (f : Ingredient → Ingredient) : (s.setIngredient o src f).outputs = s.outputs.update o fun b => { b with live := changeIngredient src f b.live } := rfl
@[simp] theorem State.setIngredient_zones (o : Nat) (src : Source) (f : Ingredient → Ingredient) : (s.setIngredient o src f).zones = s.zones := rfl
@[simp] theorem State.setIngredient_groups (o : Nat) (src : Source) (f : Ingredient → Ingredient) : (s.setIngredient o src f).groups = s.groups := rfl
@[simp] theorem State.setIngredient_relay (o : Nat) (src : Source) (f : Ingredient → Ingredient) : (s.setIngredient o src f).relay = s.relay := rfl
@[simp] theorem State.setIngredient_patterns (o : Nat) (src : Source) (f : Ingredient → Ingredient) : (s.setIngredient o src f).patterns = s.patterns := rfl
@[simp] theorem State.setIngredient_gens (o : Nat) (src : Source) (f : Ingredient → Ingredient) : (s.setIngredient o src f).gens = s.gens := rfl
@[simp] theorem State.setIngredient_house (o : Nat) (src : Source) (f : Ingredient → Ingredient) : (s.setIngredient o src f).house = s.house := rfl
@[simp] theorem State.setIngredient_clock (o : Nat) (src : Source) (f : Ingredient → Ingredient) : (s.setIngredient o src f).clock = s.clock := rfl
@[simp] theorem State.setIngredient_status (o : Nat) (src : Source) (f : Ingredient → Ingredient) : (s.setIngredient o src f).status = s.status := rfl
@[simp] theorem State.setIngredient_lines (o : Nat) (src : Source) (f : Ingredient → Ingredient) : (s.setIngredient o src f).lines = s.lines := rfl
@[simp] theorem State.setIngredient_settings (o : Nat) (src : Source) (f : Ingredient → Ingredient) : (s.setIngredient o src f).settings = s.settings := rfl
@[simp] theorem State.setIngredient_response (o : Nat) (src : Source) (f : Ingredient → Ingredient) : (s.setIngredient o src f).response = s.response := rfl
@[simp] theorem State.setIngredient_mix (o : Nat) (src : Source) (f : Ingredient → Ingredient) : (s.setIngredient o src f).mix = s.mix := rfl
@[simp] theorem State.setIngredient_ports (o : Nat) (src : Source) (f : Ingredient → Ingredient) : (s.setIngredient o src f).ports = s.ports := rfl
@[simp] theorem State.setIngredient_agenda (o : Nat) (src : Source) (f : Ingredient → Ingredient) : (s.setIngredient o src f).agenda = s.agenda := rfl
@[simp] theorem State.setIngredient_pending (o : Nat) (src : Source) (f : Ingredient → Ingredient) : (s.setIngredient o src f).pending = s.pending := rfl

@[simp] theorem State.raise_ramps (f : EventFlag) : (s.raise f).ramps = s.ramps := rfl
@[simp] theorem State.raise_protect (f : EventFlag) : (s.raise f).protect = s.protect := rfl
@[simp] theorem State.raise_roles (f : EventFlag) : (s.raise f).roles = s.roles := rfl
@[simp] theorem State.raise_performers (f : EventFlag) : (s.raise f).performers = s.performers := rfl
@[simp] theorem State.raise_packs (f : EventFlag) : (s.raise f).packs = s.packs := rfl
@[simp] theorem State.raise_cues (f : EventFlag) : (s.raise f).cues = s.cues := rfl
@[simp] theorem State.raise_flags (f : EventFlag) : (s.raise f).flags = s.flags := rfl
@[simp] theorem State.raise_cue (f : EventFlag) : (s.raise f).cue = s.cue := rfl
@[simp] theorem State.raise_chase (f : EventFlag) : (s.raise f).chase = s.chase := rfl
@[simp] theorem State.raise_clips (f : EventFlag) : (s.raise f).clips = s.clips := rfl
@[simp] theorem State.raise_voices (f : EventFlag) : (s.raise f).voices = s.voices := rfl
@[simp] theorem State.raise_voiceUnit (f : EventFlag) : (s.raise f).voiceUnit = s.voiceUnit := rfl
@[simp] theorem State.raise_programmes (f : EventFlag) : (s.raise f).programmes = s.programmes := rfl
@[simp] theorem State.raise_outputs (f : EventFlag) : (s.raise f).outputs = s.outputs := rfl
@[simp] theorem State.raise_zones (f : EventFlag) : (s.raise f).zones = s.zones := rfl
@[simp] theorem State.raise_groups (f : EventFlag) : (s.raise f).groups = s.groups := rfl
@[simp] theorem State.raise_relay (f : EventFlag) : (s.raise f).relay = s.relay := rfl
@[simp] theorem State.raise_patterns (f : EventFlag) : (s.raise f).patterns = s.patterns := rfl
@[simp] theorem State.raise_gens (f : EventFlag) : (s.raise f).gens = s.gens := rfl
@[simp] theorem State.raise_house (f : EventFlag) : (s.raise f).house = s.house := rfl
@[simp] theorem State.raise_clock (f : EventFlag) : (s.raise f).clock = s.clock := rfl
@[simp] theorem State.raise_status (f : EventFlag) : (s.raise f).status = { s.status with events := s.status.events ||| bitAt f.bit } := rfl
@[simp] theorem State.raise_lines (f : EventFlag) : (s.raise f).lines = s.lines := rfl
@[simp] theorem State.raise_settings (f : EventFlag) : (s.raise f).settings = s.settings := rfl
@[simp] theorem State.raise_response (f : EventFlag) : (s.raise f).response = s.response := rfl
@[simp] theorem State.raise_mix (f : EventFlag) : (s.raise f).mix = s.mix := rfl
@[simp] theorem State.raise_ports (f : EventFlag) : (s.raise f).ports = s.ports := rfl
@[simp] theorem State.raise_agenda (f : EventFlag) : (s.raise f).agenda = s.agenda := rfl
@[simp] theorem State.raise_pending (f : EventFlag) : (s.raise f).pending = s.pending := rfl

@[simp] theorem State.unqueue_ramps (e : Event) : (s.unqueue e).ramps = s.ramps := rfl
@[simp] theorem State.unqueue_protect (e : Event) : (s.unqueue e).protect = s.protect := rfl
@[simp] theorem State.unqueue_roles (e : Event) : (s.unqueue e).roles = s.roles := rfl
@[simp] theorem State.unqueue_performers (e : Event) : (s.unqueue e).performers = s.performers := rfl
@[simp] theorem State.unqueue_packs (e : Event) : (s.unqueue e).packs = s.packs := rfl
@[simp] theorem State.unqueue_cues (e : Event) : (s.unqueue e).cues = s.cues := rfl
@[simp] theorem State.unqueue_flags (e : Event) : (s.unqueue e).flags = s.flags := rfl
@[simp] theorem State.unqueue_cue (e : Event) : (s.unqueue e).cue = s.cue := rfl
@[simp] theorem State.unqueue_chase (e : Event) : (s.unqueue e).chase = s.chase := rfl
@[simp] theorem State.unqueue_clips (e : Event) : (s.unqueue e).clips = s.clips := rfl
@[simp] theorem State.unqueue_voices (e : Event) : (s.unqueue e).voices = s.voices := rfl
@[simp] theorem State.unqueue_voiceUnit (e : Event) : (s.unqueue e).voiceUnit = s.voiceUnit := rfl
@[simp] theorem State.unqueue_programmes (e : Event) : (s.unqueue e).programmes = s.programmes := rfl
@[simp] theorem State.unqueue_outputs (e : Event) : (s.unqueue e).outputs = s.outputs := rfl
@[simp] theorem State.unqueue_zones (e : Event) : (s.unqueue e).zones = s.zones := rfl
@[simp] theorem State.unqueue_groups (e : Event) : (s.unqueue e).groups = s.groups := rfl
@[simp] theorem State.unqueue_relay (e : Event) : (s.unqueue e).relay = s.relay := rfl
@[simp] theorem State.unqueue_patterns (e : Event) : (s.unqueue e).patterns = s.patterns := rfl
@[simp] theorem State.unqueue_gens (e : Event) : (s.unqueue e).gens = s.gens := rfl
@[simp] theorem State.unqueue_house (e : Event) : (s.unqueue e).house = s.house := rfl
@[simp] theorem State.unqueue_clock (e : Event) : (s.unqueue e).clock = s.clock := rfl
@[simp] theorem State.unqueue_status (e : Event) : (s.unqueue e).status = s.status := rfl
@[simp] theorem State.unqueue_lines (e : Event) : (s.unqueue e).lines = s.lines := rfl
@[simp] theorem State.unqueue_settings (e : Event) : (s.unqueue e).settings = s.settings := rfl
@[simp] theorem State.unqueue_response (e : Event) : (s.unqueue e).response = s.response := rfl
@[simp] theorem State.unqueue_mix (e : Event) : (s.unqueue e).mix = s.mix := rfl
@[simp] theorem State.unqueue_ports (e : Event) : (s.unqueue e).ports = s.ports := rfl
@[simp] theorem State.unqueue_agenda (e : Event) : (s.unqueue e).agenda = s.agenda.erase e := rfl
@[simp] theorem State.unqueue_pending (e : Event) : (s.unqueue e).pending = s.pending := rfl

@[simp] theorem State.nextStart_ramps : (s.nextStart).ramps = s.ramps := rfl
@[simp] theorem State.nextStart_protect : (s.nextStart).protect = s.protect := rfl
@[simp] theorem State.nextStart_roles : (s.nextStart).roles = s.roles := rfl
@[simp] theorem State.nextStart_performers : (s.nextStart).performers = s.performers := rfl
@[simp] theorem State.nextStart_packs : (s.nextStart).packs = s.packs := rfl
@[simp] theorem State.nextStart_cues : (s.nextStart).cues = s.cues := rfl
@[simp] theorem State.nextStart_flags : (s.nextStart).flags = s.flags := rfl
@[simp] theorem State.nextStart_cue : (s.nextStart).cue = s.cue := rfl
@[simp] theorem State.nextStart_chase : (s.nextStart).chase = s.chase := rfl
@[simp] theorem State.nextStart_clips : (s.nextStart).clips = s.clips := rfl
@[simp] theorem State.nextStart_voices : (s.nextStart).voices = s.voices := rfl
@[simp] theorem State.nextStart_voiceUnit : (s.nextStart).voiceUnit = { s.voiceUnit with startOrder := (s.voiceUnit.startOrder + 1) % 2 ^ 48 } := rfl
@[simp] theorem State.nextStart_programmes : (s.nextStart).programmes = s.programmes := rfl
@[simp] theorem State.nextStart_outputs : (s.nextStart).outputs = s.outputs := rfl
@[simp] theorem State.nextStart_zones : (s.nextStart).zones = s.zones := rfl
@[simp] theorem State.nextStart_groups : (s.nextStart).groups = s.groups := rfl
@[simp] theorem State.nextStart_relay : (s.nextStart).relay = s.relay := rfl
@[simp] theorem State.nextStart_patterns : (s.nextStart).patterns = s.patterns := rfl
@[simp] theorem State.nextStart_gens : (s.nextStart).gens = s.gens := rfl
@[simp] theorem State.nextStart_house : (s.nextStart).house = s.house := rfl
@[simp] theorem State.nextStart_clock : (s.nextStart).clock = s.clock := rfl
@[simp] theorem State.nextStart_status : (s.nextStart).status = s.status := rfl
@[simp] theorem State.nextStart_lines : (s.nextStart).lines = s.lines := rfl
@[simp] theorem State.nextStart_settings : (s.nextStart).settings = s.settings := rfl
@[simp] theorem State.nextStart_response : (s.nextStart).response = s.response := rfl
@[simp] theorem State.nextStart_mix : (s.nextStart).mix = s.mix := rfl
@[simp] theorem State.nextStart_ports : (s.nextStart).ports = s.ports := rfl
@[simp] theorem State.nextStart_agenda : (s.nextStart).agenda = s.agenda := rfl
@[simp] theorem State.nextStart_pending : (s.nextStart).pending = s.pending := rfl

end Sys2Proof.Machine
end

