-- ==== Sys2Proof/Laws/Table.lean ====
section
/-! SUPPORT. Tables: the canonical form is kept by every operation, and what a record reads as after each. -/

namespace Sys2Proof

variable {α β : Type}

/-- The canonical form, as a statement about the keys. -/
theorem Table.sorted_iff (t : Table α) : Table.sorted t = true ↔ (t.map Prod.fst).Pairwise (· < ·) := by
  induction t with
  | nil => simp [Table.sorted]
  | cons a t ih =>
    obtain ⟨k, a⟩ := a
    cases t with
    | nil => simp [Table.sorted]
    | cons b t =>
      obtain ⟨l, b⟩ := b
      simp only [Table.sorted, Bool.and_eq_true, decide_eq_true_eq, ih, List.map_cons, List.pairwise_cons]
      constructor
      · rintro ⟨h, h1, h2⟩
        refine ⟨?_, h1, h2⟩
        intro x hx
        rcases List.mem_cons.1 hx with rfl | hx
        · exact h
        · exact lt_trans h (h1 x hx)
      · rintro ⟨h0, h1, h2⟩
        exact ⟨h0 l (by simp), h1, h2⟩

theorem Table.put_keys (t : Table α) (n : Nat) (a : α) (k : Nat) :
    k ∈ (t.put n a).map Prod.fst → k = n ∨ k ∈ t.map Prod.fst := by
  induction t with
  | nil => simp [Table.put]
  | cons b t ih =>
    obtain ⟨l, b⟩ := b
    simp only [Table.put]
    split
    · simp
    · split
      · rename_i h; subst h; simp
      · simp only [List.map_cons, List.mem_cons]
        rintro (rfl | h)
        · simp
        · rcases ih h with h | h <;> simp [h]

theorem Table.sorted_put (t : Table α) (n : Nat) (a : α) (h : Table.sorted t = true) :
    Table.sorted (t.put n a) = true := by
  rw [Table.sorted_iff] at *
  induction t with
  | nil => simp [Table.put]
  | cons b t ih =>
    obtain ⟨l, b⟩ := b
    simp only [List.map_cons, List.pairwise_cons] at h
    simp only [Table.put]
    split
    · rename_i hn
      simp only [List.map_cons, List.pairwise_cons, List.mem_cons]
      exact ⟨by rintro x (rfl | hx); exacts [hn, lt_trans hn (h.1 x hx)], h⟩
    · split
      · rename_i hn; subst hn; simpa using h
      · rename_i h1 h2
        simp only [List.map_cons, List.pairwise_cons]
        refine ⟨fun x hx => ?_, ih h.2⟩
        rcases Table.put_keys t n a x hx with rfl | hx
        · omega
        · exact h.1 x hx

theorem Table.erase_sublist (t : Table α) (n : Nat) : (t.erase n).Sublist t := by
  induction t with
  | nil => simp [Table.erase]
  | cons b t ih =>
    obtain ⟨l, b⟩ := b
    simp only [Table.erase]
    split
    · exact List.sublist_cons_self _ _
    · exact ih.cons_cons _

theorem Table.sorted_sublist {t u : Table α} (hs : t.Sublist u) (h : Table.sorted u = true) :
    Table.sorted t = true := by
  rw [Table.sorted_iff] at *
  exact h.sublist (hs.map _)

theorem Table.sorted_erase (t : Table α) (n : Nat) (h : Table.sorted t = true) : Table.sorted (t.erase n) = true :=
  Table.sorted_sublist (Table.erase_sublist t n) h

@[simp] theorem Table.update_keys (t : Table α) (n : Nat) (f : α → α) :
    (t.update n f).map Prod.fst = t.map Prod.fst := by
  induction t with
  | nil => rfl
  | cons b t ih =>
    obtain ⟨l, b⟩ := b
    simp only [Table.update]
    split <;> simp [ih]

theorem Table.sorted_update (t : Table α) (n : Nat) (f : α → α) (h : Table.sorted t = true) :
    Table.sorted (t.update n f) = true := by
  rw [Table.sorted_iff] at *
  simpa using h

@[simp] theorem Table.mapRecords_keys (t : Table α) (f : Nat → α → β) :
    (t.mapRecords f).map Prod.fst = t.map Prod.fst := by simp [Table.mapRecords, Function.comp_def]

theorem Table.sorted_mapRecords (t : Table α) (f : Nat → α → β) (h : Table.sorted t = true) :
    Table.sorted (t.mapRecords f) = true := by
  rw [Table.sorted_iff] at *
  simpa using h

theorem Table.get_mem (t : Table α) (n : Nat) (a : α) (h : t.get n = some a) : (n, a) ∈ t := by
  induction t with
  | nil => simp [Table.get] at h
  | cons b t ih =>
    obtain ⟨l, b⟩ := b
    simp only [Table.get] at h
    split at h
    · rename_i hl; subst hl; cases h; simp
    · exact List.mem_cons_of_mem _ (ih h)

theorem Table.get_put_self (t : Table α) (n : Nat) (a : α) : (t.put n a).get n = some a := by
  induction t with
  | nil => simp [Table.put, Table.get]
  | cons b t ih =>
    obtain ⟨l, b⟩ := b
    simp only [Table.put]
    split
    · simp [Table.get]
    · split
      · simp [Table.get]
      · rename_i h1 h2
        simp only [Table.get]
        rw [if_neg (by omega), ih]

theorem Table.get_put_other (t : Table α) (n m : Nat) (a : α) (h : m ≠ n) : (t.put n a).get m = t.get m := by
  induction t with
  | nil => simp [Table.put, Table.get, Ne.symm h]
  | cons b t ih =>
    obtain ⟨l, b⟩ := b
    simp only [Table.put]
    split
    · simp [Table.get, Ne.symm h]
    · split
      · rename_i h2; subst h2; simp [Table.get, Ne.symm h]
      · simp only [Table.get, ih]

theorem Table.get_update_self (t : Table α) (n : Nat) (f : α → α) : (t.update n f).get n = (t.get n).map f := by
  induction t with
  | nil => rfl
  | cons b t ih =>
    obtain ⟨l, b⟩ := b
    simp only [Table.update, Table.get]
    split
    · rename_i h; simp [Table.get, h]
    · rename_i h; simp [Table.get, h, ih]

theorem Table.get_update_other (t : Table α) (n m : Nat) (f : α → α) (h : m ≠ n) :
    (t.update n f).get m = t.get m := by
  induction t with
  | nil => rfl
  | cons b t ih =>
    obtain ⟨l, b⟩ := b
    simp only [Table.update, Table.get]
    split
    · rename_i h2; subst h2; simp [Table.get, Ne.symm h]
    · simp [Table.get, ih]

theorem Table.get_mapRecords (t : Table α) (f : Nat → α → β) (n : Nat) :
    (t.mapRecords f).get n = (t.get n).map (f n) := by
  induction t with
  | nil => rfl
  | cons b t ih =>
    obtain ⟨l, b⟩ := b
    simp only [Table.mapRecords, List.map_cons, Table.get] at *
    split
    · rename_i h; simp [h]
    · exact ih

theorem Table.get_erase_other (t : Table α) (n m : Nat) (h : m ≠ n) : (t.erase n).get m = t.get m := by
  induction t with
  | nil => rfl
  | cons b t ih =>
    obtain ⟨l, b⟩ := b
    simp only [Table.erase, Table.get]
    split
    · rename_i h2; subst h2; simp [Ne.symm h]
    · simp [Table.get, ih]

theorem Table.lowestFree_bounds (t : Table α) (n lo e : Nat) (h : t.lowestFree lo n = some e) :
    lo ≤ e ∧ e < lo + n ∧ t.has e = false := by
  induction n generalizing lo with
  | zero => simp [Table.lowestFree] at h
  | succ n ih =>
    simp only [Table.lowestFree] at h
    split at h
    · have := ih (lo + 1) h; exact ⟨by omega, by omega, this.2.2⟩
    · rename_i hf; cases h; exact ⟨by omega, by omega, by simpa using hf⟩

/-- A record written adds one entry, or none where the key was present. -/
theorem Table.put_length (t : Table α) (n : Nat) (a : α) : (t.put n a).length ≤ t.length + 1 := by
  induction t with
  | nil => simp [Table.put]
  | cons b t ih =>
    obtain ⟨l, b⟩ := b
    simp only [Table.put]
    split
    · simp
    · split <;> simp
      omega

theorem Table.put_length_present (t : Table α) (n : Nat) (a b : α) (hs : Table.sorted t = true)
    (h : t.get n = some b) : (t.put n a).length = t.length := by
  induction t with
  | nil => simp [Table.get] at h
  | cons c t ih =>
    obtain ⟨l, c⟩ := c
    have hs' : Table.sorted t = true := Table.sorted_sublist (List.sublist_cons_self _ _) hs
    rw [Table.sorted_iff] at hs
    simp only [List.map_cons, List.pairwise_cons] at hs
    simp only [Table.get] at h
    simp only [Table.put]
    split at h
    · rename_i hl; subst hl; simp
    · rename_i hl
      have := hs.1 n (List.mem_map_of_mem (f := Prod.fst) (Table.get_mem _ _ _ h))
      rw [if_neg (by omega), if_neg (by omega)]
      simp [ih hs' h]

end Sys2Proof
end

