-- ==== Sys2Proof/Laws/Kept.lean ====
section
/-! SUPPORT. What the shared operations leave as it was: `Stays r s` relates a state to one that events, ticks and
transitions made of it. Each operation has one lemma, named after it, that carries the relation over it. -/

namespace Sys2Proof.Machine

-- One declaration at a time: elaborated side by side, the lemmas here need more threads than the check allows.
set_option Elab.async false

/-- What no event, tick or transition of the part changes, and the laws each keeps. The tables here are the host's to
write; the queue is the sender's. -/
structure Stays (r s : State) : Prop where
  roles : s.roles = r.roles := by rfl
  cues : s.cues = r.cues := by rfl
  clips : s.clips = r.clips := by rfl
  groups : s.groups = r.groups := by rfl
  patterns : s.patterns = r.patterns := by rfl
  settings : s.settings = r.settings := by rfl
  response : s.response = r.response := by rfl
  clock : s.clock = r.clock := by rfl
  mix : s.mix = r.mix := by rfl
  ports : s.ports = r.ports := by rfl
  pending : s.pending = r.pending := by rfl
  performers : s.performers.map Prod.fst = r.performers.map Prod.fst := by
    first | rfl | exact Table.update_keys _ _ _ | simp
  packs : s.packs.map Prod.fst = r.packs.map Prod.fst := by
    first | rfl | exact Table.update_keys _ _ _ | simp
  zones : s.zones.map Prod.fst = r.zones.map Prod.fst := by
    first | rfl | exact Table.update_keys _ _ _ | simp
  voices : s.voices.map Prod.fst = r.voices.map Prod.fst := by
    first | rfl | exact Table.update_keys _ _ _ | simp
  programmes : s.programmes.map Prod.fst = r.programmes.map Prod.fst := by
    first | rfl | exact Table.update_keys _ _ _ | simp
  outputs : s.outputs.map Prod.fst = r.outputs.map Prod.fst := by
    first | rfl | exact Table.update_keys _ _ _ | simp
  gens : s.gens.map Prod.fst = r.gens.map Prod.fst := by
    first | rfl | exact Table.update_keys _ _ _ | simp
  lines : s.lines.map Prod.fst = r.lines.map Prod.fst := by
    first | rfl | exact Table.update_keys _ _ _ | simp
  protect : s.protect.map Prod.fst = r.protect.map Prod.fst := by
    first | rfl | exact Table.update_keys _ _ _ | simp
  ramps : r.rampLaw = true → s.rampLaw = true := by exact fun k => k
  status : r.statusLaw = true → s.statusLaw = true := by exact fun k => k

theorem Stays.refl (s : State) : Stays s s := {}

theorem Stays.trans {r s t : State} (h : Stays r s) (k : Stays s t) : Stays r t where
  roles := k.roles.trans h.roles
  cues := k.cues.trans h.cues
  clips := k.clips.trans h.clips
  groups := k.groups.trans h.groups
  patterns := k.patterns.trans h.patterns
  settings := k.settings.trans h.settings
  response := k.response.trans h.response
  clock := k.clock.trans h.clock
  mix := k.mix.trans h.mix
  ports := k.ports.trans h.ports
  pending := k.pending.trans h.pending
  performers := k.performers.trans h.performers
  packs := k.packs.trans h.packs
  zones := k.zones.trans h.zones
  voices := k.voices.trans h.voices
  programmes := k.programmes.trans h.programmes
  outputs := k.outputs.trans h.outputs
  gens := k.gens.trans h.gens
  lines := k.lines.trans h.lines
  protect := k.protect.trans h.protect
  ramps := k.ramps ∘ h.ramps
  status := k.status ∘ h.status

variable {r s : State}

theorem Stays.foldl {α : Type} {f : State → α → State} (hf : ∀ t a, Stays t (f t a)) (as : List α)
    (h : Stays r s) : Stays r (as.foldl f s) := by
  induction as generalizing s with
  | nil => exact h
  | cons a as ih => exact ih (h.trans (hf s a))

/-! ### The laws under one change -/

theorem rampLaw_iff (s : State) : s.rampLaw = true ↔
    s.ramps.sorted = true ∧ (∀ er ∈ s.ramps, er.1 < 128) ∧ (s.ramps.map fun er => er.2.element).Nodup := by
  simp [State.rampLaw, and_assoc]

/-- A pool that is a part of a lawful pool is lawful. -/
theorem rampLaw_sublist {s t : State} (hs : t.ramps.Sublist s.ramps) (h : s.rampLaw = true) : t.rampLaw = true := by
  rw [rampLaw_iff] at *
  exact ⟨Table.sorted_sublist hs h.1, fun er he => h.2.1 er (hs.subset he), h.2.2.sublist (hs.map _)⟩

/-- A pool whose entries move the same elements is lawful. -/
theorem rampLaw_of_elements {s t : State} (hk : t.ramps.map Prod.fst = s.ramps.map Prod.fst)
    (he : (t.ramps.map fun er => er.2.element) = s.ramps.map fun er => er.2.element) (h : s.rampLaw = true) :
    t.rampLaw = true := by
  rw [rampLaw_iff] at *
  refine ⟨?_, ?_, he ▸ h.2.2⟩
  · have := h.1
    rw [Table.sorted_iff] at *
    rw [hk]; exact this
  · intro er hm
    have : er.1 ∈ s.ramps.map Prod.fst := hk ▸ List.mem_map_of_mem (f := Prod.fst) hm
    obtain ⟨er', hm', hfst⟩ := List.mem_map.1 this
    exact hfst ▸ h.2.1 er' hm'

theorem element_update (t : Table Ramp) (n : Nat) (f : Ramp → Ramp) (hf : ∀ x, (f x).element = x.element) :
    ((t.update n f).map fun er => er.2.element) = t.map fun er => er.2.element := by
  induction t with
  | nil => rfl
  | cons b t ih =>
    obtain ⟨l, b⟩ := b
    simp only [Table.update]
    split <;> simp [ih, hf]

theorem mem_put {α : Type} (t : Table α) (n : Nat) (a : α) (x : Nat × α) (hx : x ∈ t.put n a) :
    x = (n, a) ∨ x ∈ t := by
  induction t with
  | nil => simpa [Table.put] using hx
  | cons c t ih =>
    obtain ⟨m, c⟩ := c
    simp only [Table.put] at hx
    split at hx
    · simpa using hx
    · split at hx <;> rcases List.mem_cons.1 hx with hx | hx
      · exact .inl hx
      · exact .inr (List.mem_cons_of_mem _ hx)
      · exact .inr (hx ▸ List.mem_cons_self)
      · exact (ih hx).imp id (List.mem_cons_of_mem _)

/-- A ramp put in the entry of the element it replaces, or in any entry where no other moves its element. -/
theorem rampLaw_put {s t : State} (e : Nat) (x : Ramp) (he : e < 128)
    (hx : ∀ er ∈ s.ramps, er.2.element = x.element → er.1 = e) (ht : t.ramps = s.ramps.put e x)
    (h : s.rampLaw = true) : t.rampLaw = true := by
  rw [rampLaw_iff] at *
  obtain ⟨h1, h2, h3⟩ := h
  rw [ht]
  have sorted := Table.sorted_put s.ramps e x h1
  refine ⟨sorted, fun er hm => ?_, ?_⟩
  · rcases mem_put _ _ _ _ hm with rfl | hm
    · exact he
    · exact h2 er hm
  · rw [Table.sorted_iff, List.pairwise_map] at sorted
    rw [List.Nodup, List.pairwise_map]
    refine sorted.imp_of_mem fun {a b} ha hb hlt heq => ?_
    have : a.1 = b.1 := by
      rcases mem_put _ _ _ _ ha with rfl | ha <;> rcases mem_put _ _ _ _ hb with rfl | hb
      · rfl
      · exact (hx b hb heq.symm).symm
      · exact hx a ha heq
      · exact congrArg Prod.fst (List.inj_on_of_nodup_map h3 ha hb heq)
    omega

theorem statusLaw_iff (s : State) : s.statusLaw = true ↔
    s.status.events &&& ~~~assignedFlags = 0#32 ∧ s.status.mask &&& ~~~assignedFlags = 0#32 ∧
      s.status.clipped ≤ 65535 ∧ s.status.rampOverflow ≤ 65535 ∧ s.status.actionSkipped ≤ 65535 ∧
      s.status.underrun ≤ 65535 := by
  simp [State.statusLaw, and_assoc]

theorem or_and_zero {e b m : BitVec 32} (h : e &&& m = 0#32) (k : b &&& m = 0#32) : (e ||| b) &&& m = 0#32 := by
  apply BitVec.eq_of_getLsbD_eq
  intro i hi
  have h1 := congrArg (fun x => BitVec.getLsbD x i) h
  have k1 := congrArg (fun x => BitVec.getLsbD x i) k
  simp only [BitVec.getLsbD_and, BitVec.getLsbD_or, BitVec.getLsbD_zero] at *
  rw [Bool.and_or_distrib_right, h1, k1]
  rfl

theorem bit_assigned (f : EventFlag) : bitAt f.bit &&& ~~~assignedFlags = 0#32 := by cases f <;> decide

/-! ### One record at a time -/

theorem Stays.setVoice {v : Nat} {f : Voice → Voice} (h : Stays r s) : Stays r (s.setVoice v f) := h.trans {}
theorem Stays.setOutput {o : Nat} {f : Foldback → Foldback} (h : Stays r s) : Stays r (s.setOutput o f) := h.trans {}
theorem Stays.setProgramme {p : Nat} {f : Programme → Programme} (h : Stays r s) : Stays r (s.setProgramme p f) :=
  h.trans {}
theorem Stays.setZone {z : Nat} {f : Zone → Zone} (h : Stays r s) : Stays r (s.setZone z f) := h.trans {}
theorem Stays.setPack {p : Nat} {f : Pack → Pack} (h : Stays r s) : Stays r (s.setPack p f) := h.trans {}
theorem Stays.setCall {c : Nat} {f : Call → Call} (h : Stays r s) : Stays r (s.setCall c f) := h.trans {}
theorem Stays.setGen {g : Nat} {f : Generator → Generator} (h : Stays r s) : Stays r (s.setGen g f) := h.trans {}
theorem Stays.setRun {n : Nat} {f : Run → Run} (h : Stays r s) : Stays r (s.setRun n f) := h.trans {}
theorem Stays.setLine {l : Nat} {f : Line → Line} (h : Stays r s) : Stays r (s.setLine l f) := h.trans {}
theorem Stays.setIngredient {o : Nat} {src : Source} {f : Ingredient → Ingredient} (h : Stays r s) :
    Stays r (s.setIngredient o src f) := h.setOutput
theorem Stays.unqueue {e : Event} (h : Stays r s) : Stays r (s.unqueue e) := h.trans {}
theorem Stays.nextStart (h : Stays r s) : Stays r s.nextStart := h.trans {}

theorem Stays.enqueue {e : Event} (h : Stays r s) : Stays r (s.enqueue e) := by
  unfold State.enqueue
  split
  · exact h
  · exact h.trans {}

theorem Stays.enqueueIf {c : Bool} {e : Event} (h : Stays r s) : Stays r (s.enqueueIf c e) := by
  unfold State.enqueueIf
  split
  · exact h.enqueue
  · exact h

/-! ### The status and event unit -/

theorem Stays.raise {f : EventFlag} (h : Stays r s) : Stays r (s.raise f) :=
  h.trans
    { status := fun k => by
        rw [statusLaw_iff] at *
        exact ⟨or_and_zero k.1 (bit_assigned f), k.2⟩ }

/-- Flags that stay assigned and counters that stay within 65535 keep the status law. -/
theorem Stays.countOverflow (h : Stays r s) : Stays r s.countOverflow :=
  h.raise (f := .rampOverflow) |>.trans
    { status := fun k => by
        rw [statusLaw_iff] at *
        exact ⟨k.1, k.2.1, k.2.2.1, Nat.min_le_right _ _, k.2.2.2.2⟩ }

theorem Stays.skipAction (h : Stays r s) : Stays r s.skipAction :=
  h.raise (f := .actionSkipped) |>.trans
    { status := fun k => by
        rw [statusLaw_iff] at *
        exact ⟨k.1, k.2.1, k.2.2.1, k.2.2.2.1, Nat.min_le_right _ _, k.2.2.2.2.2⟩ }

theorem Stays.countUnderrun (h : Stays r s) : Stays r s.countUnderrun :=
  h.raise (f := .underrun) |>.trans
    { status := fun k => by
        rw [statusLaw_iff] at *
        exact ⟨k.1, k.2.1, k.2.2.1, k.2.2.2.1, k.2.2.2.2.1, Nat.min_le_right _ _⟩ }

theorem Stays.countClipped {n : Nat} (h : Stays r s) : Stays r (s.countClipped n) := by
  unfold State.countClipped
  split
  · exact h
  · exact h.raise (f := .clipped) |>.trans
      { status := fun k => by
          rw [statusLaw_iff] at *
          exact ⟨k.1, k.2.1, Nat.min_le_right _ _, k.2.2.2⟩ }

/-! ### Gain elements and the ramp pool -/

theorem Stays.setFine {el : Element} {f : Nat} (h : Stays r s) : Stays r (s.setFine el f) := by
  cases el
  · exact h.setVoice
  · exact h.setIngredient
  · exact h.setOutput
  · exact h.setOutput
  · exact h.setProgramme
  · exact h.setZone
  · exact h.setZone
  · exact h.trans {}

@[simp] theorem State.setFine_ramps (el : Element) (f : Nat) (s : State) : (s.setFine el f).ramps = s.ramps := by
  cases el <;> rfl

theorem Stays.dropRamp {el : Element} (h : Stays r s) : Stays r (s.dropRamp el) := by
  unfold State.dropRamp
  split
  · exact h
  · exact h.trans { ramps := rampLaw_sublist (Table.erase_sublist _ _) }

theorem Stays.snapTo {el : Element} {f : Nat} (h : Stays r s) : Stays r (s.snapTo el f) := h.dropRamp.setFine

theorem Stays.removeIngredient {o : Nat} {src : Source} (h : Stays r s) : Stays r (s.removeIngredient o src) :=
  h.dropRamp.setOutput

theorem Stays.startRamp {e : Nat} {m : Move} (he : e < 128)
    (hx : ∀ er ∈ s.ramps, er.2.element = m.element → er.1 = e) (h : Stays r s) : Stays r (s.startRamp e m) :=
  (h.setFine (el := m.element) (f := (m.glide (s.fine m.element)).1)).trans
    { ramps := rampLaw_put e _ he (by simpa using hx) rfl }

/-! ### The voice unit -/

theorem Stays.disown {v : Nat} (h : Stays r s) : Stays r (s.disown v) := h.trans {}

theorem Stays.requestRefill {v : Nat} (h : Stays r s) : Stays r (s.requestRefill v) := by
  unfold State.requestRefill
  split
  · exact h.setVoice.enqueueIf
  · exact h

theorem Stays.beginBase {v k : Nat} {route : List Nat} {o : VoiceOwner} {l : Loops} (h : Stays r s) :
    Stays r (s.beginBase v k route o l) := h.disown.dropRamp.setVoice

theorem Stays.beginMessage {v id k : Nat} (h : Stays r s) : Stays r (s.beginMessage v id k) :=
  h.beginBase.requestRefill

theorem Stays.giveVoice {v id k : Nat} (h : Stays r s) : Stays r (s.giveVoice v id k) :=
  h.nextStart.setVoice.beginMessage.setCall

theorem Stays.unwait {id : Nat} (h : Stays r s) :
    Stays r { s with voiceUnit := { s.voiceUnit with waiting := s.voiceUnit.waiting.erase id } } := h.trans {}

theorem Stays.serveWaiting {v : Nat} (h : Stays r s) : Stays r (s.serveWaiting v) := by
  unfold State.serveWaiting
  split
  · exact h
  · simp only
    split
    · exact h.unwait
    · exact h.unwait.giveVoice

theorem Stays.endVoice {v : Nat} (h : Stays r s) : Stays r (s.endVoice v) :=
  h.disown.dropRamp.setVoice.serveWaiting

theorem Stays.steal {v : Nat} {p : PendingPlay} {tag : Option Nat} (h : Stays r s) : Stays r (s.steal v p tag) :=
  h.nextStart.setVoice.raise

theorem Stays.releaseLoop {v : Nat} (h : Stays r s) : Stays r (s.releaseLoop v) := by
  unfold State.releaseLoop
  simp only
  split
  · exact h.setVoice
  · split
    · exact h
    · exact h.trans {}

theorem Stays.parkVoices (h : Stays r s) : Stays r s.parkVoices := by
  unfold State.parkVoices
  exact h.trans {}

theorem Stays.grantRefill (h : Stays r s) : Stays r s.grantRefill := by
  unfold State.grantRefill
  split
  · exact h
  · split
    · exact h
    · simp only
      split
      · exact h.setVoice.enqueueIf
      · split
        · exact h.setVoice.enqueueIf
        · exact h.setVoice.setVoice.trans {}

theorem Stays.completeRefill {data : Bytes} (h : Stays r s) : Stays r (s.completeRefill data) := by
  unfold State.completeRefill
  split
  · exact h
  · exact Stays.enqueueIf (Stays.requestRefill (h.trans {}))

/-! ### The ramp engine -/

theorem Stays.complete {a : Option Completion} (h : Stays r s) : Stays r (s.complete a) := by
  unfold State.complete
  split
  · exact h
  · split
    · exact h.endVoice
    · exact h
  · exact h.removeIngredient

theorem Stays.snapMove {m : Move} (h : Stays r s) : Stays r (s.snapMove m) := h.snapTo.complete

/-- The move law: a lawful pool stays lawful whatever case of R11 a move takes. -/
theorem rampOn_key {el : Element} {e : Nat} {x : Ramp} (hs : s.rampOn el = some (e, x)) (h : s.rampLaw = true) :
    e < 128 ∧ ∀ er ∈ s.ramps, er.2.element = el → er.1 = e := by
  rw [rampLaw_iff] at h
  have hm := List.mem_of_find?_eq_some hs
  have hel : x.element = el := by simpa using List.find?_some hs
  refine ⟨h.2.1 _ hm, fun er her heq => ?_⟩
  exact congrArg Prod.fst (List.inj_on_of_nodup_map h.2.2 her hm (heq.trans hel.symm))

theorem Stays.startFree {e n : Nat} {m : Move} (hn : s.rampOn m.element = none)
    (hf : s.ramps.lowestFree 0 n = some e) (hle : n ≤ 128) (h : Stays r s) : Stays r (s.startRamp e m) := by
  have hb := Table.lowestFree_bounds _ _ _ _ hf
  refine h.startRamp (by omega) fun er her heq => ?_
  have := List.find?_eq_none.1 hn er her
  simp [heq] at this

theorem Stays.startOn {e : Nat} {m : Move} {x : Ramp} (hs : s.rampOn m.element = some (e, x)) (h : Stays r s) :
    Stays r (s.startRamp e m) :=
  (h.setFine (el := m.element) (f := (m.glide (s.fine m.element)).1)).trans
    { ramps := fun k => by
        have k' : s.rampLaw = true := by
          have : (s.setFine m.element (m.glide (s.fine m.element)).1).ramps = s.ramps := by simp
          unfold State.rampLaw at *
          rwa [this] at k
        have hb := rampOn_key hs k'
        exact rampLaw_put e _ hb.1 (by simpa using hb.2) rfl k }

theorem Stays.engineMove {m : Move} (h : Stays r s) : Stays r (s.engineMove m) := by
  unfold State.engineMove
  split
  · exact h.snapMove
  · split
    · rename_i hs; exact h.startOn hs
    · rename_i hn
      split
      · rename_i hf; exact h.startFree hn hf (le_refl 128)
      · exact h.snapMove.countOverflow

theorem Stays.move {m : Move} (h : Stays r s) : Stays r (s.move m) := by
  unfold State.move
  split
  · split
    · exact h.setVoice
    · exact h.engineMove
  · exact h.engineMove

theorem Stays.beginPending {v : Nat} (h : Stays r s) : Stays r (s.beginPending v) := by
  unfold State.beginPending
  split
  · exact h
  · simp only
    split
    · exact h.beginBase.requestRefill
    · exact h.beginBase.engineMove.requestRefill

theorem Stays.reglide {e : Nat} {g : Glide} (h : Stays r s) :
    Stays r { s with ramps := s.ramps.update e fun x => { x with glide := g } } :=
  h.trans { ramps := rampLaw_of_elements (Table.update_keys _ _ _) (element_update _ _ _ fun _ => rfl) }

theorem Stays.stepRamp {er : Nat × Ramp} (h : Stays r s) : Stays r (s.stepRamp er) := by
  unfold State.stepRamp
  split
  · exact h
  · exact (h.setFine.reglide).enqueueIf

theorem Stays.stepRamps (h : Stays r s) : Stays r s.stepRamps := h.foldl (fun t _ => (Stays.refl t).stepRamp) _

theorem Stays.freeEntry {e : Nat} (h : Stays r s) : Stays r { s with ramps := s.ramps.erase e } :=
  h.trans { ramps := rampLaw_sublist (Table.erase_sublist _ _) }

theorem Stays.rampComplete {e : Nat} (h : Stays r s) : Stays r (s.rampComplete e) := by
  unfold State.rampComplete
  split
  · exact h
  · split
    · exact h.freeEntry.setFine.complete
    · exact h

theorem Stays.markRamps {f : Nat → Ramp → Ramp} (hf : ∀ n x, (f n x).element = x.element) (h : Stays r s) :
    Stays r { s with ramps := s.ramps.mapRecords f } :=
  h.trans
    { ramps := rampLaw_of_elements (Table.mapRecords_keys _ _)
        (by simp [Table.mapRecords, Function.comp_def, hf]) }

theorem Stays.freeze (h : Stays r s) : Stays r s.freeze := h.markRamps fun _ x => by split <;> rfl

theorem Stays.unfreeze (h : Stays r s) : Stays r s.unfreeze := h.markRamps fun _ _ => rfl

theorem Stays.dropFrozen (h : Stays r s) : Stays r s.dropFrozen := by
  unfold State.dropFrozen
  exact (h.foldl (fun t _ => (Stays.refl t).setFine) (s.ramps.filter (·.2.frozen))).trans
    { ramps := rampLaw_sublist List.filter_sublist }

theorem Stays.finishBuiltIn (h : Stays r s) : Stays r s.finishBuiltIn := by
  unfold State.finishBuiltIn
  exact h.trans {}

theorem Stays.completeAll (h : Stays r s) : Stays r s.completeAll := by
  unfold State.completeAll
  refine Stays.foldl (fun t _ => (Stays.refl t).complete) _ (Stays.finishBuiltIn ?_)
  exact (h.foldl (fun t _ => (Stays.refl t).setFine) s.ramps).trans
    { ramps := rampLaw_sublist (List.nil_sublist _) }

/-! ### Gates, stops, crossfades -/

theorem Stays.stepGate {kv : Nat × Voice} (h : Stays r s) : Stays r (s.stepGate kv) := h.setVoice.enqueueIf.enqueueIf

theorem Stays.stepGates (h : Stays r s) : Stays r s.stepGates := h.foldl (fun t _ => (Stays.refl t).stepGate) _

theorem Stays.gateIsClosed {v : Nat} (h : Stays r s) : Stays r (s.gateIsClosed v) := by
  unfold State.gateIsClosed
  simp only
  split
  · split
    · exact h.endVoice
    · split
      · exact h
      · exact h.beginPending
  · exact h.endVoice
  · exact h

theorem Stays.gateClosed {v : Nat} (h : Stays r s) : Stays r (s.gateClosed v) := by
  unfold State.gateClosed
  simp only
  split
  · exact h.setVoice.gateIsClosed
  · exact h

theorem Stays.gateOpened {v : Nat} (h : Stays r s) : Stays r (s.gateOpened v) := by
  unfold State.gateOpened
  simp only
  split
  · exact h.setVoice
  · exact h

theorem Stays.resumeVoice {v : Nat} (h : Stays r s) : Stays r (s.resumeVoice v) := by
  unfold State.resumeVoice
  simp only
  split
  · split
    · exact h.setVoice
    · have ht : Stays r (if (s.voice v).cause = some .ending then s
          else s.setVoice v fun y => { y with tail := 0 }) := by
        split
        · exact h
        · exact h.setVoice
      split
      · exact ht.gateIsClosed
      · exact ht
    · exact h
    · exact h
  · exact h

theorem Stays.resumeVoices (h : Stays r s) : Stays r s.resumeVoices :=
  h.foldl (fun t _ => (Stays.refl t).resumeVoice) _

theorem Stays.endShowVoice {v : Nat} (h : Stays r s) : Stays r (s.endShowVoice v) := by
  unfold State.endShowVoice
  simp only
  split
  · split
    · split
      · exact h.setVoice.endVoice
      · exact h.setVoice
    · split
      · exact h.setVoice.endVoice
      · exact h.setVoice
    · exact h
    · exact h
  · exact h

theorem Stays.endShowVoices (h : Stays r s) : Stays r s.endShowVoices :=
  h.foldl (fun t _ => (Stays.refl t).endShowVoice) _

theorem Stays.rebindAll (h : Stays r s) : Stays r s.rebindAll := by
  unfold State.rebindAll
  exact h.trans {}

theorem Stays.stepCrossfades {kb : Nat × Foldback} (h : Stays r s) : Stays r (s.stepCrossfades kb) :=
  (h.setOutput).foldl (fun t _ => (Stays.refl t).enqueueIf) _

theorem Stays.stepAllCrossfades (h : Stays r s) : Stays r s.stepAllCrossfades :=
  h.foldl (fun t _ => (Stays.refl t).stepCrossfades) _

theorem Stays.crossfadeEnd {o : Nat} {src : Source} (h : Stays r s) : Stays r (s.crossfadeEnd o src) :=
  h.setIngredient

end Sys2Proof.Machine
end

