-- ==== Sys2Proof/Laws/Blocks.lean ====
section
/-! SUPPORT. What the blocks of the part leave as it was: `Stays` carried over the cast table, the chime and relay units,
the cue engine, the chase, the house, the lines, the events and the control tick. -/

namespace Sys2Proof.Machine

-- One declaration at a time: elaborated side by side, the lemmas here need more threads than the check allows.
set_option Elab.async false

variable {r s : State}

/-! ### The cast table -/

theorem Stays.moveProtect {ch c f : Nat} (h : Stays r s) : Stays r (s.moveProtect ch c f) := h.move
theorem Stays.protectChannel {ch : Nat} (h : Stays r s) : Stays r (s.protectChannel ch) := h.moveProtect
theorem Stays.restoreChannel {ch : Nat} (h : Stays r s) : Stays r (s.restoreChannel ch) := h.moveProtect

theorem Stays.swapPacks {k : Nat} (h : Stays r s) : Stays r (s.swapPacks k) :=
  (Stays.raise (h.trans {})).rebindAll

theorem Stays.autoSwap {p : Nat} (h : Stays r s) : Stays r (s.autoSwap p) := by
  unfold State.autoSwap
  split
  · split
    · exact h
    · split
      · exact h
      · split
        · exact h.swapPacks
        · exact h
  · exact h

theorem Stays.enterLost {p : Nat} (h : Stays r s) : Stays r (s.enterLost p) := by
  unfold State.enterLost
  split
  · exact h
  · exact h.setPack.raise.protectChannel.autoSwap

theorem Stays.enterGood {p n : Nat} (h : Stays r s) : Stays r (s.enterGood p n) := by
  unfold State.enterGood
  split
  · exact h
  · exact h.setPack.raise.restoreChannel

theorem Stays.qualify {p n : Nat} {c : Bool} (h : Stays r s) : Stays r (s.qualify p n c) := by
  unfold State.qualify
  split
  · exact h.enterGood
  · simp only
    split
    · exact h.setPack.raise
    · exact h.setPack

theorem Stays.moveHealth {p : Nat} {g : Bool} (h : Stays r s) : Stays r (s.moveHealth p g) := by
  unfold State.moveHealth
  split
  · exact h
  · split
    · exact h.qualify
    · exact h.qualify
    · exact h.qualify
    · exact h
    · exact h
    · exact h.enterLost

theorem Stays.takeReport {p a b : Nat} (h : Stays r s) : Stays r (s.takeReport p a b) := by
  unfold State.takeReport
  split
  · exact h
  · simp only
    split
    · exact h.setPack.moveHealth
    · exact h.setPack.raise.moveHealth

theorem Stays.packTimeout {p : Nat} (h : Stays r s) : Stays r (s.packTimeout p) := by
  unfold State.packTimeout
  split
  · exact h
  · split
    · exact h.enterLost
    · exact h

theorem Stays.stepPack {kp : Nat × Pack} (h : Stays r s) : Stays r (s.stepPack kp) := h.setPack.enqueueIf
theorem Stays.stepPacks (h : Stays r s) : Stays r s.stepPacks := h.foldl (fun t _ => (Stays.refl t).stepPack) _

theorem Stays.restartCast (h : Stays r s) : Stays r s.restartCast := by
  unfold State.restartCast
  simp only
  split
  · exact Stays.raise (h.trans {})
  · exact h.trans {}

/-! ### The chime unit -/

theorem Stays.freeGen {g : Nat} (h : Stays r s) : Stays r (s.freeGen g) := h.setGen

theorem Stays.beginChime {g i k : Nat} (h : Stays r s) : Stays r (s.beginChime g i k) := by
  unfold State.beginChime
  split
  · exact h
  · exact h.setGen

theorem Stays.soundGen {kg : Nat × Generator} (h : Stays r s) : Stays r (s.soundGen kg) :=
  h.setGen.enqueueIf.enqueueIf.enqueueIf

theorem Stays.soundGens (h : Stays r s) : Stays r s.soundGens := h.foldl (fun t _ => (Stays.refl t).soundGen) _

theorem Stays.markEnd {g : Nat} (h : Stays r s) : Stays r (s.markEnd g) := by
  unfold State.markEnd
  simp only
  split
  · exact h.setGen.enqueueIf
  · exact h

theorem Stays.cycleEnd {g : Nat} (h : Stays r s) : Stays r (s.cycleEnd g) := by
  unfold State.cycleEnd
  simp only
  split
  · exact h.setGen.enqueueIf
  · exact h

theorem Stays.lineCheck (h : Stays r s) : Stays r s.lineCheck := by
  unfold State.lineCheck
  simp only
  split
  · split
    · exact h.setGen
    · exact h
  · split
    · exact h.freeGen
    · exact h

theorem Stays.checksNormal (h : Stays r s) : Stays r s.checksNormal := by
  unfold State.checksNormal
  exact Stays.lineCheck (h.trans {})

/-! ### The relay unit -/

theorem Stays.setOccupant {z : Nat} {o : Option Occupant} (h : Stays r s) : Stays r (s.setOccupant z o) := by
  unfold State.setOccupant
  split
  · exact h.trans {}
  · exact h.setZone

theorem Stays.releaseGen {i : Nat} (h : Stays r s) : Stays r (s.releaseGen i) := by
  unfold State.releaseGen
  split
  · exact h
  · exact h.freeGen.setCall

theorem Stays.releaseVoice {i : Nat} (h : Stays r s) : Stays r (s.releaseVoice i) := by
  unfold State.releaseVoice
  split
  · refine Stays.setCall ?_
    split
    · split
      · exact h.setVoice
      · exact h.endVoice
    · exact h
  · exact h.unwait.setCall
  · exact h

theorem Stays.askVoice {i k : Nat} (h : Stays r s) : Stays r (s.askVoice i k) := by
  unfold State.askVoice
  split
  · exact h.giveVoice
  · split
    · simp only
      split
      · exact h.steal.setCall.gateIsClosed
      · exact h.steal.setCall
    · exact Stays.setCall (h.trans {})

theorem Stays.enterGap {i : Nat} (h : Stays r s) : Stays r (s.enterGap i) := h.setCall.enqueueIf

theorem Stays.enterMessage {i : Nat} (h : Stays r s) : Stays r (s.enterMessage i) := by
  unfold State.enterMessage
  split
  · exact h
  · simp only
    split
    · exact h.setCall
    · exact h.setCall.askVoice
    · split
      · exact h.setCall.enterGap
      · exact h.setCall

theorem Stays.enterChime {i : Nat} (h : Stays r s) : Stays r (s.enterChime i) := by
  unfold State.enterChime
  split
  · exact h
  · split
    · exact h.enterMessage
    · split
      · exact h.raise.enterMessage
      · exact h.setCall.beginChime

theorem Stays.moveDuck {el : Element} {a b : Nat} (h : Stays r s) : Stays r (s.moveDuck el a b) := h.move

theorem Stays.duckDown {z : Nat} (h : Stays r s) : Stays r (s.duckDown z) := by
  unfold State.duckDown
  split
  · exact h.foldl (fun t _ => (Stays.refl t).moveDuck) _
  · split
    · exact h
    · exact h.moveDuck

theorem Stays.duckUp {z : Nat} (h : Stays r s) : Stays r (s.duckUp z) := by
  unfold State.duckUp
  split
  · exact h.foldl (fun t _ => (Stays.refl t).moveDuck) _
  · split
    · exact h
    · exact h.moveDuck

theorem Stays.startPass {i : Nat} {zs : List Nat} (h : Stays r s) : Stays r (s.startPass i zs) :=
  (h.foldl (fun t _ => (Stays.refl t).duckDown) zs).setCall.enqueueIf

theorem Stays.endPass {i : Nat} (h : Stays r s) : Stays r (s.endPass i) := h.releaseGen.releaseVoice.setCall

theorem Stays.enterClosing {i : Nat} (h : Stays r s) : Stays r (s.enterClosing i) := by
  unfold State.enterClosing
  split
  · exact h
  · exact (Stays.foldl (fun t _ => (Stays.refl t).duckUp) _
      (h.foldl (fun t _ => (Stays.refl t).setOccupant) _).setCall).releaseVoice.releaseGen.setCall.enqueueIf

theorem Stays.retireCall {i : Nat} (h : Stays r s) : Stays r (s.retireCall i) := by
  unfold State.retireCall
  split
  · exact h
  · exact Stays.raise (h.trans {})

theorem Stays.retireIfFinished {i : Nat} (h : Stays r s) : Stays r (s.retireIfFinished i) := by
  unfold State.retireIfFinished
  split
  · exact h
  · split
    · exact h.retireCall
    · exact h

theorem Stays.loseZone {i z : Nat} (h : Stays r s) : Stays r (s.loseZone i z) := by
  unfold State.loseZone
  split
  · exact h
  · simp only
    (repeat' split) <;> first
      | exact h.setCall.endPass
      | exact h.setCall

theorem Stays.grantZone {i p z : Nat} (h : Stays r s) : Stays r (s.grantZone i p z) := by
  unfold State.grantZone
  refine Stays.setCall (Stays.setOccupant ?_)
  split
  · exact h
  · exact h.loseZone

theorem Stays.arbitrateCall {i : Nat} (h : Stays r s) : Stays r (s.arbitrateCall i) := by
  unfold State.arbitrateCall
  split
  · exact h
  · simp only
    split
    · exact h
    · exact (h.foldl (fun t _ => (Stays.refl t).grantZone) _).startPass

theorem Stays.arbitrate {c : Option Nat} (h : Stays r s) : Stays r (s.arbitrate c) := by
  unfold State.arbitrate
  refine Stays.foldl (fun t _ => (Stays.refl t).retireIfFinished) _ ?_
  have k : Stays r (s.callOrder.foldl State.arbitrateCall s) := h.foldl (fun t _ => (Stays.refl t).arbitrateCall) _
  split
  · exact k
  · exact k.setCall

theorem Stays.addCall {c : CallSpec} {e : Bool} {zs : List Nat} (h : Stays r s) : Stays r (s.addCall c e zs) :=
  h.trans {}

theorem Stays.placeCall {c : CallSpec} {t : State} {i : Nat} (ht : s.placeCall c = .ok (t, i)) (h : Stays r s) :
    Stays r t := by
  unfold State.placeCall at ht
  simp only at ht
  (repeat' split at ht) <;> first
    | (injection ht with ht; injection ht with ht _; subst ht; exact h.addCall.arbitrate)
    | injection ht

theorem Stays.endCallNow {i : Nat} (h : Stays r s) : Stays r (s.endCallNow i) := by
  unfold State.endCallNow
  split
  · exact h
  · split
    · exact h.enterClosing.setCall.arbitrate
    · exact h.setCall.retireIfFinished

theorem Stays.cancelNow {i : Nat} (h : Stays r s) : Stays r (s.cancelNow i) := by
  unfold State.cancelNow
  split
  · exact h
  · refine Stays.arbitrate (Stays.unqueue (Stays.retireCall (Stays.setCall ?_)))
    split
    · exact h.enterClosing
    · exact h

theorem Stays.delivered {i : Nat} (h : Stays r s) : Stays r (s.delivered i) := by
  unfold State.delivered
  split
  · exact h
  · split
    · split
      · exact h.enterGap
      · exact h.setCall.enterClosing.arbitrate
    · exact h

theorem Stays.openingEnd {i : Nat} (h : Stays r s) : Stays r (s.openingEnd i) := by
  unfold State.openingEnd
  split
  · exact h
  · split
    · exact h.enterChime
    · exact h

theorem Stays.gapEnd {i : Nat} (h : Stays r s) : Stays r (s.gapEnd i) := by
  unfold State.gapEnd
  split
  · exact h
  · split
    · exact h.enterChime
    · exact h

theorem Stays.closingEnd {i : Nat} (h : Stays r s) : Stays r (s.closingEnd i) := by
  unfold State.closingEnd
  split
  · exact h
  · split
    · exact h.setCall.arbitrate
    · exact h

theorem Stays.liveMaximum {i : Nat} (h : Stays r s) : Stays r (s.liveMaximum i) := by
  unfold State.liveMaximum
  split
  · exact h
  · split
    · simp only
      split
      · exact h.setCall.enterClosing.arbitrate
      · exact h.setCall
    · exact h

theorem Stays.chimeComplete {g : Nat} (h : Stays r s) : Stays r (s.chimeComplete g) := by
  unfold State.chimeComplete
  simp only
  split
  · split
    · exact h.freeGen
    · exact h.freeGen.setCall.enterMessage
  · exact h

theorem Stays.stepCall {kc : Nat × Call} (h : Stays r s) : Stays r (s.stepCall kc) :=
  h.setCall.enqueueIf.enqueueIf.enqueueIf.enqueueIf

theorem Stays.stepCalls (h : Stays r s) : Stays r s.stepCalls := h.foldl (fun t _ => (Stays.refl t).stepCall) _

theorem Stays.placePtt (h : Stays r s) : Stays r s.placePtt := by
  unfold State.placePtt
  simp only
  split
  · rename_i ht; exact Stays.placeCall ht (h.trans {})
  · exact h.raise

theorem Stays.endPtt (h : Stays r s) : Stays r s.endPtt := by
  unfold State.endPtt
  split
  · exact h
  · exact h.endCallNow

theorem Stays.setPressed {b : Bool} (h : Stays r s) : Stays r { s with relay := { s.relay with pttPressed := b } } :=
  h.trans {}

theorem Stays.reportPtt {b : Bool} (h : Stays r s) : Stays r (s.reportPtt b) := by
  unfold State.reportPtt
  split
  · exact h
  · simp only
    split
    · exact h.setPressed.placePtt
    · split
      · exact h.setPressed.endPtt
      · exact h.setPressed

theorem Stays.evacuate (h : Stays r s) : Stays r s.evacuate := by
  unfold State.evacuate
  refine Stays.arbitrate (Stays.addCall ?_)
  split
  · split
    · exact h
    · exact h.cancelNow
  · exact h

theorem Stays.endEvacuation (h : Stays r s) : Stays r s.endEvacuation := by
  unfold State.endEvacuation
  exact (h.foldl (fun t _ => (Stays.refl t).enterClosing) _).arbitrate

theorem Stays.restartRelay (h : Stays r s) : Stays r s.restartRelay := by
  unfold State.restartRelay
  exact h.trans {}

/-! ### The cue engine -/

theorem Stays.examine (h : Stays r s) : Stays r s.examine := h.enqueueIf
theorem Stays.setHouse {x : HouseState} (h : Stays r s) : Stays r (s.setHouse x) :=
  (Stays.raise (h.trans {})).examine
theorem Stays.enterRunning (h : Stays r s) : Stays r s.enterRunning := h.setHouse.checksNormal

theorem Stays.setCue {c : CueEngine} (h : Stays r s) : Stays r { s with cue := c } := h.trans {}

theorem Stays.relamp (h : Stays r s) : Stays r s.relamp := by
  unfold State.relamp
  split
  · exact h.setCue
  · exact h.setCue

theorem Stays.darkGapEnd (h : Stays r s) : Stays r s.darkGapEnd := by
  unfold State.darkGapEnd
  split
  · exact h.relamp
  · exact h

theorem Stays.flashPhase (h : Stays r s) : Stays r s.flashPhase := by
  unfold State.flashPhase
  split
  · exact h.setCue
  · exact h

theorem Stays.latch {n : Nat} {c : Cue} (h : Stays r s) : Stays r (s.latch n c) := h.setCue.examine

theorem Stays.markStale {n : Nat} (h : Stays r s) : Stays r (s.markStale n) := by
  unfold State.markStale
  split
  · exact h
  · split
    · exact h.setCue.raise
    · exact h

theorem Stays.takeTag {v t : Nat} (h : Stays r s) : Stays r (s.takeTag v t) := by
  unfold State.takeTag
  exact h.trans {}

theorem Stays.playOn {v k t l : Nat} {route : List Nat} {f : Nat} {lo : Loops} (h : Stays r s) :
    Stays r (s.playOn v k t l route f lo) := h.nextStart.setVoice.takeTag.beginBase.engineMove.requestRefill

theorem Stays.doPlay {k t l : Nat} {route : List Nat} {f : Nat} {lo : Option Nat} (h : Stays r s) :
    Stays r (s.doPlay k t l route f lo) := by
  unfold State.doPlay
  split
  · exact h.skipAction
  · simp only
    split
    · exact h.playOn
    · split
      · exact h.skipAction
      · split
        · exact h.steal.takeTag.gateIsClosed
        · exact h.steal.takeTag

theorem Stays.doFade {t l f : Nat} {b : Bool} (h : Stays r s) : Stays r (s.doFade t l f b) := by
  unfold State.doFade
  split
  · exact h.skipAction
  · exact h.move

theorem Stays.doRelease {t : Nat} (h : Stays r s) : Stays r (s.doRelease t) := by
  unfold State.doRelease
  split
  · exact h.skipAction
  · exact h.releaseLoop

theorem Stays.joinLive {o : Nat} {src : Source} (h : Stays r s) : Stays r (s.joinLive o src) := h.setOutput

theorem Stays.doIngredient {o : Nat} {src : Source} {l f : Nat} (h : Stays r s) :
    Stays r (s.doIngredient o src l f) := by
  unfold State.doIngredient
  simp only
  split
  · exact h.move
  · split
    · exact h.skipAction
    · exact h.joinLive.move

theorem Stays.doMaster {e : MasterRef} {l f : Nat} (h : Stays r s) : Stays r (s.doMaster e l f) := by
  unfold State.doMaster
  split
  · split
    · exact h.move
    · exact h.skipAction
  · exact h.move

theorem Stays.doCall {t : Target} {k : Nat} {p : Option Nat} {q : Nat} (h : Stays r s) :
    Stays r (s.doCall t k p q) := by
  unfold State.doCall
  split
  · rename_i ht; exact h.placeCall ht
  · exact h.skipAction

theorem Stays.execute {a : Action} (h : Stays r s) : Stays r (s.execute a) := by
  unfold State.execute
  split
  · exact h.doPlay
  · exact h.doFade
  · exact h.doRelease
  · exact h.doFade
  · exact h.doIngredient
  · exact h.doMaster
  · exact h.trans {}
  · exact h.doCall

theorem Stays.executeDue {n : Nat} {p : Action → Bool} (h : Stays r s) : Stays r (s.executeDue n p) := by
  unfold State.executeDue
  split
  · exact h
  · exact h.setRun.foldl (fun t _ => (Stays.refl t).execute) _

theorem Stays.dropRun {n : Nat} (h : Stays r s) : Stays r (s.dropRun n) := h.setCue

theorem Stays.freeIfFinished {n : Nat} (h : Stays r s) : Stays r (s.freeIfFinished n) := by
  unfold State.freeIfFinished
  split
  · exact h
  · split
    · exact h.dropRun
    · exact h

theorem Stays.collapse (h : Stays r s) : Stays r s.collapse := by
  unfold State.collapse
  split
  · exact h
  · exact h.executeDue.dropRun.raise

theorem Stays.takeRun {l : Latch} (h : Stays r s) : Stays r (s.takeRun l).1 := by
  unfold State.takeRun
  refine Stays.raise (Stays.setCue ?_)
  split
  · exact h.collapse
  · exact h

theorem Stays.autoStandby {l : Latch} (h : Stays r s) : Stays r (s.autoStandby l) := by
  unfold State.autoStandby
  simp only
  split <;> split <;> (try split) <;> (try split) <;>
    first
      | exact h
      | exact h.latch
      | exact h.raise
      | exact h.raise.latch

theorem Stays.fireCopy {l : Latch} (h : Stays r s) : Stays r (s.fireCopy l) :=
  h.takeRun.autoStandby.executeDue.freeIfFinished.examine

theorem Stays.fire (h : Stays r s) : Stays r s.fire.1 := by
  unfold State.fire
  split
  · exact h.fireCopy
  · split
    · exact h.raise
    · exact h.fireCopy

theorem Stays.holdGo (h : Stays r s) : Stays r s.holdGo.1 := by
  unfold State.holdGo
  split
  · exact h.setCue.raise
  · exact h.setCue

theorem Stays.takeGo (h : Stays r s) : Stays r s.takeGo.1 := by
  unfold State.takeGo
  split
  · exact h
  · exact h.raise
  · exact h.raise
  · split
    · exact h.holdGo
    · exact h.enterRunning.fire
  · split
    · exact h.holdGo
    · exact h.fire

theorem Stays.setHold {a b : Bool} (h : Stays r s) : Stays r (s.setHold a b) := by
  unfold State.setHold
  simp only
  split
  · exact h.setCue.setCue.takeGo
  · exact h.setCue

theorem Stays.discardPendingGo (h : Stays r s) : Stays r s.discardPendingGo := by
  unfold State.discardPendingGo
  split
  · exact h.setCue.raise
  · exact h

theorem Stays.timecodeGo (h : Stays r s) : Stays r s.timecodeGo := by
  unfold State.timecodeGo
  split
  · exact h.setCue.takeGo.relamp
  · exact h

theorem Stays.actionDue {n : Nat} (h : Stays r s) : Stays r (s.actionDue n) := by
  unfold State.actionDue
  split
  · split
    · exact h
    · exact h.executeDue.freeIfFinished
  · exact h

theorem Stays.followExpiry {n : Nat} (h : Stays r s) : Stays r (s.followExpiry n) := by
  unfold State.followExpiry
  split
  · exact h.setRun.freeIfFinished.takeGo.relamp
  · exact h

theorem Stays.stepRun {n : Nat} (h : Stays r s) : Stays r (s.stepRun n) := h.setRun.enqueueIf.enqueueIf

theorem Stays.stepRuns (h : Stays r s) : Stays r s.stepRuns := by
  unfold State.stepRuns
  split
  · exact h
  · exact h.foldl (fun t _ => (Stays.refl t).stepRun) _

theorem Stays.dropRuns (h : Stays r s) : Stays r s.dropRuns := h.setCue
theorem Stays.restartCue (h : Stays r s) : Stays r s.restartCue := h.setCue

/-! ### The chase -/

theorem Stays.putChase {c : Chase} (h : Stays r s) : Stays r { s with chase := c } := h.trans {}

theorem Stays.setChase {c : Chase} (h : Stays r s) : Stays r (s.setChase c) := by
  unfold State.setChase
  simp only
  split
  · exact h.putChase
  · exact h.putChase.raise

theorem Stays.stepChase (h : Stays r s) : Stays r s.stepChase := h.putChase.enqueueIf.enqueueIf.enqueueIf.examine

theorem Stays.chaseFrameAdvance (h : Stays r s) : Stays r s.chaseFrameAdvance := by
  unfold State.chaseFrameAdvance
  split
  · exact h.putChase.examine
  · exact h

theorem Stays.chaseSilence (h : Stays r s) : Stays r s.chaseSilence := by
  unfold State.chaseSilence
  split
  · split
    · exact h.setChase.examine
    · exact h.setChase
    · exact h
    · exact h
  · exact h

theorem Stays.freewheelExpiry (h : Stays r s) : Stays r s.freewheelExpiry := by
  unfold State.freewheelExpiry
  split
  · exact h.setChase
  · exact h

/-! ### Voices in a sample period -/

theorem Stays.underrun {v : Nat} {c : Clip} (h : Stays r s) : Stays r (s.underrun v c) := by
  unfold State.underrun
  refine Stays.countUnderrun ?_
  simp only
  split
  · exact h.setVoice.trans {}
  · exact h.setVoice.setVoice

theorem Stays.soundPlayback {v : Nat} {c : Clip} (h : Stays r s) : Stays r (s.soundPlayback v c).1 := by
  unfold State.soundPlayback
  split
  · exact h.underrun
  · exact h.setVoice

theorem Stays.soundVoice {v : Nat} (h : Stays r s) : Stays r (s.soundVoice v).1 := by
  unfold State.soundVoice
  simp only
  split
  · exact h.setVoice.requestRefill
  · exact h.setVoice.setVoice.requestRefill
  · split
    · exact h.setVoice
    · exact h.setVoice.soundPlayback.enqueueIf.requestRefill

theorem Stays.soundVoices (h : Stays r s) : Stays r s.soundVoices.1 := by
  have key : ∀ (vs : List Nat) (acc : State × Table Sample), Stays r acc.1 →
      Stays r (vs.foldl (fun (acc : State × Table Sample) v =>
        let heard := acc.1.soundVoice v
        (heard.1, acc.2 ++ [(v, heard.2)])) acc).1 := by
    intro vs
    induction vs with
    | nil => exact fun _ k => k
    | cons v vs ih => exact fun acc k => ih _ k.soundVoice
  exact key _ _ h

theorem Stays.clipEnd {v : Nat} (h : Stays r s) : Stays r (s.clipEnd v) := by
  unfold State.clipEnd
  split
  · simp only
    split
    · exact h.disown.setVoice
    · split
      · exact h.endVoice.delivered
      · exact h.endVoice
      · exact h.endVoice
  · exact h

/-! ### The house -/

theorem Stays.putHouse {x : House} (h : Stays r s) : Stays r { s with house := x } := h.trans {}
theorem Stays.setHeld {b : Bool} (h : Stays r s) : Stays r (s.setHeld b) := h.putHouse
theorem Stays.park (h : Stays r s) : Stays r s.park := h.putHouse.freeze.discardPendingGo.parkVoices

theorem Stays.restartVoices (h : Stays r s) : Stays r s.restartVoices := by
  unfold State.restartVoices
  exact h.trans {}

theorem Stays.restartFoldback (h : Stays r s) : Stays r s.restartFoldback := by
  unfold State.restartFoldback
  exact Stays.checksNormal (h.trans {})

theorem Stays.restartGens (h : Stays r s) : Stays r s.restartGens := by
  unfold State.restartGens
  exact h.trans {}

theorem Stays.restartChase (h : Stays r s) : Stays r s.restartChase := h.setChase
theorem Stays.clearStop (h : Stays r s) : Stays r s.clearStop := h.putHouse

theorem Stays.audioRestart (h : Stays r s) : Stays r s.audioRestart :=
  h.completeAll.restartVoices.restartCast.restartCue.restartChase.restartFoldback.restartRelay.restartGens.clearStop

theorem Stays.freshLevels (h : Stays r s) : Stays r s.freshLevels := h.trans {}
theorem Stays.rouse (h : Stays r s) : Stays r s.rouse := h.putHouse.audioRestart.freshLevels
theorem Stays.stopNow (h : Stays r s) : Stays r s.stopNow := h.setHouse.park.relamp

theorem Stays.resumeNow (h : Stays r s) : Stays r s.resumeNow :=
  h.setHouse.setHeld.unfreeze.resumeVoices.checksNormal.examine.relamp

theorem Stays.endNow (h : Stays r s) : Stays r s.endNow := by
  unfold State.endNow
  refine Stays.relamp (Stays.examine ?_)
  split
  · exact h.setHouse.dropRuns.discardPendingGo.dropFrozen.endShowVoices.setHeld
  · exact h.setHouse.dropRuns.discardPendingGo

theorem Stays.evacNow (h : Stays r s) : Stays r s.evacNow := by
  unfold State.evacNow
  refine Stays.relamp (Stays.evacuate (Stays.checksNormal ?_))
  split <;> split
  · exact h.rouse.setHouse
  · exact h.setHouse
  · exact h.rouse.setHouse.park
  · exact h.setHouse.park

theorem Stays.clearEvacNow (h : Stays r s) : Stays r s.clearEvacNow := h.setHouse.endEvacuation.relamp

theorem Stays.darkNow (h : Stays r s) : Stays r s.darkNow :=
  Stays.relamp (h.discardPendingGo.completeAll.setHouse.trans {})

theorem Stays.wakeNow (h : Stays r s) : Stays r s.wakeNow := h.rouse.setHouse.relamp

theorem Stays.takenOr {x : Except Status State} (hx : ∀ t, x = .ok t → Stays r t) (h : Stays r s) :
    Stays r (takenOr x s) := by
  unfold Machine.takenOr
  split
  · rename_i t; exact hx t rfl
  · exact h

theorem Stays.stopShow {t : State} (ht : s.stopShow = .ok t) (h : Stays r s) : Stays r t := by
  unfold State.stopShow at ht
  split at ht
  · injection ht with ht; subst ht; exact h.stopNow
  · cases ht

theorem Stays.resume {t : State} (ht : s.resume = .ok t) (h : Stays r s) : Stays r t := by
  unfold State.resume at ht
  split at ht
  · injection ht with ht; subst ht; exact h.resumeNow
  · cases ht

theorem Stays.endShow {t : State} (ht : s.endShow = .ok t) (h : Stays r s) : Stays r t := by
  unfold State.endShow at ht
  split at ht
  · injection ht with ht; subst ht; exact h.endNow
  · cases ht

theorem Stays.evac {t : State} (ht : s.evac = .ok t) (h : Stays r s) : Stays r t := by
  unfold State.evac at ht
  split at ht
  · injection ht
  · injection ht with ht; subst ht; exact h.evacNow

theorem Stays.clearEvac {t : State} (ht : s.clearEvac = .ok t) (h : Stays r s) : Stays r t := by
  unfold State.clearEvac at ht
  split at ht
  · injection ht with ht; subst ht; exact h.clearEvacNow
  · cases ht

theorem Stays.dark {t : State} (ht : s.dark = .ok t) (h : Stays r s) : Stays r t := by
  unfold State.dark at ht
  split at ht
  · injection ht with ht; subst ht; exact h.darkNow
  · cases ht

theorem Stays.wake {t : State} (ht : s.wake = .ok t) (h : Stays r s) : Stays r t := by
  unfold State.wake at ht
  split at ht
  · injection ht with ht; subst ht; exact h.wakeNow
  · cases ht

theorem Stays.restartAudio {t : State} (ht : s.restartAudio = .ok t) (h : Stays r s) : Stays r t := by
  unfold State.restartAudio at ht
  split at ht
  · injection ht with ht; subst ht; exact h.audioRestart.relamp
  · cases ht

/-! ### The lines -/

theorem Stays.edge {l : Nat} (h : Stays r s) : Stays r (s.edge l) := by
  unfold State.edge
  simp only
  split
  · exact h.enqueue
  · exact h.setLine

theorem Stays.stepLine {p : BitVec 12} {l : Nat} (h : Stays r s) : Stays r (s.stepLine p l) := by
  unfold State.stepLine
  simp only
  split
  · exact h.setLine
  · split
    · exact h.setLine.setLine
    · split
      · exact h.setLine.setLine.edge
      · exact h.setLine.setLine

theorem Stays.stepLines {p : BitVec 12} (h : Stays r s) : Stays r (s.stepLines p) :=
  h.foldl (fun t _ => (Stays.refl t).stepLine) _

theorem Stays.setActive {l : Nat} {a : Bool} (h : Stays r s) : Stays r (s.setActive l a) := h.setLine

theorem Stays.reportHold (h : Stays r s) : Stays r s.reportHold := by
  unfold State.reportHold
  split
  · exact h
  · exact h.setHold.relamp

theorem Stays.goLine {l : Nat} (h : Stays r s) : Stays r (s.goLine l) := by
  unfold State.goLine
  split
  · exact h.setActive.takeGo.relamp
  · exact h

theorem Stays.holdLine {l : Nat} (h : Stays r s) : Stays r (s.holdLine l) := by
  unfold State.holdLine
  split
  · exact h.setActive.reportHold
  · exact h

theorem Stays.holdRelease {l : Nat} (h : Stays r s) : Stays r (s.holdRelease l) := by
  unfold State.holdRelease
  split
  · exact h.setActive.reportHold
  · exact h

theorem Stays.stopLine {l : Nat} (h : Stays r s) : Stays r (s.stopLine l) := by
  unfold State.stopLine
  split
  · exact Stays.takenOr (fun _ ht => Stays.stopShow ht h.setActive) h.setActive
  · exact h

theorem Stays.resumeLine {l : Nat} (h : Stays r s) : Stays r (s.resumeLine l) := by
  unfold State.resumeLine
  split
  · exact Stays.takenOr (fun _ ht => Stays.resume ht h.setActive) h.setActive
  · exact h

theorem Stays.evacLine {l : Nat} (h : Stays r s) : Stays r (s.evacLine l) := by
  unfold State.evacLine
  split
  · exact Stays.takenOr (fun _ ht => Stays.evac ht h.setActive) h.setActive
  · exact h

theorem Stays.evacRelease {l : Nat} (h : Stays r s) : Stays r (s.evacRelease l) := by
  unfold State.evacRelease
  split
  · exact h.setActive
  · exact h

theorem Stays.wakeLine {l : Nat} (h : Stays r s) : Stays r (s.wakeLine l) := by
  unfold State.wakeLine
  split
  · exact Stays.takenOr (fun _ ht => Stays.wake ht h.setActive) h.setActive
  · exact h

theorem Stays.pttPress {l : Nat} (h : Stays r s) : Stays r (s.pttPress l) := by
  unfold State.pttPress
  split
  · exact h.setActive.reportPtt
  · exact h

theorem Stays.pttRelease {l : Nat} (h : Stays r s) : Stays r (s.pttRelease l) := by
  unfold State.pttRelease
  split
  · exact h.setActive.reportPtt
  · exact h

/-! ### Events, the agenda and the control tick -/

theorem Stays.takeEvent {e : Event} (h : Stays r s) : Stays r (s.takeEvent e) := by
  cases e
  · exact h.clipEnd
  · exact h.markEnd
  · exact h.cycleEnd
  · exact h.chimeComplete
  · exact h.grantRefill
  · exact h.rampComplete
  · exact h.gateClosed
  · exact h.gateOpened
  · exact h.crossfadeEnd
  · exact h.packTimeout
  · exact h.actionDue
  · exact h.followExpiry
  · exact h.darkGapEnd
  · exact h.flashPhase
  · exact h.chaseFrameAdvance
  · exact h.chaseSilence
  · exact h.freewheelExpiry
  · exact h.timecodeGo
  · exact h.openingEnd
  · exact h.closingEnd
  · exact h.gapEnd
  · exact h.liveMaximum
  · exact h.goLine
  · exact h.holdLine
  · exact h.holdRelease
  · exact h.stopLine
  · exact h.resumeLine
  · exact h.evacLine
  · exact h.evacRelease
  · exact h.wakeLine
  · exact h.pttPress
  · exact h.pttRelease

theorem Stays.settleUpTo {n : Nat} (h : Stays r s) : Stays r (settleUpTo n s) := by
  induction n generalizing s with
  | zero => exact h
  | succ n ih =>
    unfold Machine.settleUpTo
    split
    · exact h
    · exact ih (Stays.takeEvent (h.trans {}))

/-- Taking what has come due: the one fact every command's effect rests on. -/
theorem Stays.settle (h : Stays r s) : Stays r s.settle := h.settleUpTo

theorem Stays.takeThrough {e : Event} {n : Nat} (h : Stays r s) : Stays r (takeThrough e n s) := by
  induction n generalizing s with
  | zero => exact h
  | succ n ih =>
    unfold Machine.takeThrough
    split
    · exact h
    · split
      · exact Stays.takeEvent (h.trans {})
      · split
        · exact ih (Stays.takeEvent (h.trans {}))
        · exact h

theorem Stays.event {e : Event} (h : Stays r s) : Stays r (s.event e) := h.takeThrough

theorem Stays.stepGap (h : Stays r s) : Stays r s.stepGap := by
  unfold State.stepGap
  split
  · exact h
  · exact h.setCue.enqueueIf

theorem Stays.stepFlash (h : Stays r s) : Stays r s.stepFlash := by
  unfold State.stepFlash
  split
  · exact h.setCue.enqueueIf
  · exact h

theorem Stays.stepHeld (h : Stays r s) : Stays r s.stepHeld := by
  unfold State.stepHeld
  split
  · exact h.putHouse
  · exact h

theorem Stays.controlTick {p : BitVec 12} (h : Stays r s) : Stays r (s.controlTick p) := by
  unfold State.controlTick
  simp only
  split
  · exact h.putHouse.stepLines
  · exact
      h.putHouse.stepRamps.stepGates.stepAllCrossfades.stepPacks.stepRuns.stepGap.stepFlash.stepChase.stepCalls.stepHeld
        |>.stepLines

theorem Stays.dueTick (h : Stays r s) : Stays r s.dueTick := by
  unfold State.dueTick
  split
  · exact h.controlTick.settle
  · exact h

/-! ### Host edits of levels and recipes -/

theorem Stays.edit {el : Element} {l : Nat} {a : Option Completion} (h : Stays r s) : Stays r (s.edit el l a) := h.move

theorem Stays.editIf {el : Element} {l : Option Nat} (h : Stays r s) : Stays r (s.editIf el l) := by
  unfold State.editIf
  split
  · exact h
  · exact h.edit

theorem Stays.takeMove {o g l : Nat} {src : Source} {a : Option Completion} (h : Stays r s) :
    Stays r (s.takeMove o g src l a) := h.move

theorem Stays.takeOne {o g : Nat} {p : List PendingIngredient} {b : State} {src : Source} (h : Stays r s) :
    Stays r (takeOne o g p b s src) := by
  unfold Machine.takeOne
  split
  · exact h.takeMove
  · split
    · exact h
    · exact h.takeMove

theorem Stays.takeRecipe {o g : Nat} {p : List PendingIngredient} (h : Stays r s) : Stays r (s.takeRecipe o g p) := by
  unfold State.takeRecipe
  refine Stays.setOutput (Stays.foldl (fun _ _ => (Stays.refl _).joinLive.takeMove) _
    (Stays.foldl (fun t _ => (Stays.refl t).takeOne) _ ?_))
  exact h.foldl (fun t _ => (Stays.refl t).removeIngredient) _

theorem Stays.writeOutput {o : Nat} {w : FoldbackWrite} (h : Stays r s) : Stays r (s.writeOutput o w) :=
  h.setOutput.editIf

theorem Stays.writeProgramme {p : Nat} {l : Label} {m : Option Nat} {c : Bool} (h : Stays r s) :
    Stays r (s.writeProgramme p l m c) := h.setProgramme.editIf

/-- With nothing due, nothing is taken. -/
@[simp] theorem settle_of_empty (h : s.agenda = []) : s.settle = s := by
  simp [State.settle, settleUpTo, h]

end Sys2Proof.Machine
end

