-- ==== Sys2Proof/Laws/PerInstr.lean ====
section
/-! SUPPORT. The family `BodyFits`: a well-formed command's request body fits the 4092 bytes a frame may carry (R190). -/

namespace Sys2Proof.Laws


theorem length_encodeEntries (es : List Entry) : (encodeEntries es).length = entriesLength es := by
  induction es with
  | nil => rfl
  | cons e es ih => simp [encodeEntries, entriesLength, ih]; omega

theorem body_fits {b : Body} (h : bodyWf b = true) : (encodeEntries (b.getD [])).length ≤ 4092 := by
  cases b with
  | none => simp [bodyWf] at h
  | some es =>
    simp only [bodyWf, Bool.and_eq_true, decide_eq_true_eq] at h
    simpa [length_encodeEntries] using h.2

theorem key_fits (t : Byte) {k : Option Bytes} (h : keyWf k = true) : (keyBody t (k.getD [])).length ≤ 4092 := by
  cases k with
  | none => simp [keyWf] at h
  | some k =>
    simp only [keyWf, decide_eq_true_eq] at h
    simp [keyBody]; omega

theorem write_fits (t : Byte) {w : WriteReq} (h : w.wf = true) : (writeBody t w).length ≤ 4092 := by
  obtain ⟨key, mode, fields⟩ := w
  cases key with
  | none => simp [WriteReq.wf] at h
  | some k =>
    cases fields with
    | none => simp [WriteReq.wf] at h
    | some es =>
      simp only [WriteReq.wf, Bool.and_eq_true, decide_eq_true_eq] at h
      simp only [writeBody, keyBody, Option.getD_some, List.cons_append, List.length_cons, List.length_append,
        length_encodeEntries]
      omega

/-- A well-formed command's request body is at most 4092 bytes long. -/
def BodyFits.Statement (i : Instr) : Prop := i.wf = true → ∀ cb, i.codeBody = some cb → cb.2.length ≤ 4092

namespace BodyFits

theorem of_none {i : Instr} (h : i.codeBody = none) : Statement i := by
  intro _ cb hc
  rw [h] at hc
  cases hc

theorem of_some {i : Instr} {cb : Byte × Bytes} (h : i.codeBody = some cb) (hl : i.wf = true → cb.2.length ≤ 4092) :
    Statement i := by
  intro hw cb' hc
  rw [h] at hc
  cases hc
  exact hl hw

theorem powerOnReset : Statement (.powerOnReset) := of_none rfl
theorem clockSelection (edge : Bool) : Statement (.clockSelection edge) := of_none rfl
theorem wclkLoss : Statement (.wclkLoss) := of_none rfl
theorem wclkReturn : Statement (.wclkReturn) := of_none rfl
theorem externalClockSwitch : Statement (.externalClockSwitch) := of_none rfl
theorem samplePeriod (inp : InPorts) : Statement (.samplePeriod inp) := of_none rfl
theorem clipEnd (voice : Nat) : Statement (.clipEnd voice) := of_none rfl
theorem markEnd (gen : Nat) : Statement (.markEnd gen) := of_none rfl
theorem cycleEnd (gen : Nat) : Statement (.cycleEnd gen) := of_none rfl
theorem chimeComplete (gen : Nat) : Statement (.chimeComplete gen) := of_none rfl
theorem refillGrant : Statement (.refillGrant) := of_none rfl
theorem refillComplete (data : Bytes) : Statement (.refillComplete data) := of_none rfl
theorem controlTick (pins : BitVec 12) : Statement (.controlTick pins) := of_none rfl
theorem rampComplete (entry : Nat) : Statement (.rampComplete entry) := of_none rfl
theorem gateClosed (voice : Nat) : Statement (.gateClosed voice) := of_none rfl
theorem gateOpened (voice : Nat) : Statement (.gateOpened voice) := of_none rfl
theorem crossfadeEnd (output : Nat) (src : Source) : Statement (.crossfadeEnd output src) := of_none rfl
theorem packTimeout (pack : Nat) : Statement (.packTimeout pack) := of_none rfl
theorem actionDue (run : Nat) : Statement (.actionDue run) := of_none rfl
theorem followExpiry (run : Nat) : Statement (.followExpiry run) := of_none rfl
theorem darkGapEnd : Statement (.darkGapEnd) := of_none rfl
theorem flashPhase : Statement (.flashPhase) := of_none rfl
theorem chaseFrameAdvance : Statement (.chaseFrameAdvance) := of_none rfl
theorem chaseSilence : Statement (.chaseSilence) := of_none rfl
theorem freewheelExpiry : Statement (.freewheelExpiry) := of_none rfl
theorem timecodeGo : Statement (.timecodeGo) := of_none rfl
theorem openingEnd (call : Nat) : Statement (.openingEnd call) := of_none rfl
theorem closingEnd (call : Nat) : Statement (.closingEnd call) := of_none rfl
theorem gapEnd (call : Nat) : Statement (.gapEnd call) := of_none rfl
theorem liveMaximum (call : Nat) : Statement (.liveMaximum call) := of_none rfl
theorem goLineActivation (line : Nat) : Statement (.goLineActivation line) := of_none rfl
theorem holdLineActivation (line : Nat) : Statement (.holdLineActivation line) := of_none rfl
theorem holdLineRelease (line : Nat) : Statement (.holdLineRelease line) := of_none rfl
theorem stopLineActivation (line : Nat) : Statement (.stopLineActivation line) := of_none rfl
theorem resumeLineActivation (line : Nat) : Statement (.resumeLineActivation line) := of_none rfl
theorem evacLineActivation (line : Nat) : Statement (.evacLineActivation line) := of_none rfl
theorem evacLineRelease (line : Nat) : Statement (.evacLineRelease line) := of_none rfl
theorem wakeLineActivation (line : Nat) : Statement (.wakeLineActivation line) := of_none rfl
theorem pttPress (line : Nat) : Statement (.pttPress line) := of_none rfl
theorem pttRelease (line : Nat) : Statement (.pttRelease line) := of_none rfl
theorem readTransaction (count : Nat) : Statement (.readTransaction count) := of_none rfl
theorem badFrame (rx : Bytes) : Statement (.badFrame rx) := of_none rfl
theorem unknownRequest (code : Byte) : Statement (.unknownRequest code) := of_none rfl
theorem nop (body : Body) : Statement (.nop body) :=
  of_some rfl (body_fits)
theorem lookup (req : KeyReq) : Statement (.lookup req) :=
  of_some rfl (fun h => key_fits _ (Bool.and_eq_true _ _ ▸ h).2)
theorem nextKey (req : KeyReq) : Statement (.nextKey req) :=
  of_some rfl (fun h => key_fits _ (Bool.and_eq_true _ _ ▸ h).2)
theorem writeRole (w : WriteReq) : Statement (.writeRole w) :=
  of_some rfl (write_fits _)
theorem writePerformer (w : WriteReq) : Statement (.writePerformer w) :=
  of_some rfl (write_fits _)
theorem writePack (w : WriteReq) : Statement (.writePack w) :=
  of_some rfl (write_fits _)
theorem writeCue (w : WriteReq) : Statement (.writeCue w) :=
  of_some rfl (write_fits _)
theorem writeFlags (w : WriteReq) : Statement (.writeFlags w) :=
  of_some rfl (write_fits _)
theorem writeCueState (w : WriteReq) : Statement (.writeCueState w) :=
  of_some rfl (write_fits _)
theorem writeClip (w : WriteReq) : Statement (.writeClip w) :=
  of_some rfl (write_fits _)
theorem writeProgramme (w : WriteReq) : Statement (.writeProgramme w) :=
  of_some rfl (write_fits _)
theorem writeFoldback (w : WriteReq) : Statement (.writeFoldback w) :=
  of_some rfl (write_fits _)
theorem writeLiveIngredient (w : WriteReq) : Statement (.writeLiveIngredient w) :=
  of_some rfl (fun h => write_fits _ (Bool.and_eq_true _ _ ▸ h).1)
theorem writePendingIngredient (w : WriteReq) : Statement (.writePendingIngredient w) :=
  of_some rfl (fun h => write_fits _ (Bool.and_eq_true _ _ ▸ h).1)
theorem writeZone (w : WriteReq) : Statement (.writeZone w) :=
  of_some rfl (write_fits _)
theorem writeGroup (w : WriteReq) : Statement (.writeGroup w) :=
  of_some rfl (write_fits _)
theorem writePattern (w : WriteReq) : Statement (.writePattern w) :=
  of_some rfl (write_fits _)
theorem writeLine (w : WriteReq) : Statement (.writeLine w) :=
  of_some rfl (write_fits _)
theorem writeSettings (w : WriteReq) : Statement (.writeSettings w) :=
  of_some rfl (write_fits _)
theorem writeStatus (w : WriteReq) : Statement (.writeStatus w) :=
  of_some rfl (write_fits _)
theorem writeRefusedTable (table : Option Byte) (w : WriteReq) : Statement (.writeRefusedTable table w) :=
  of_some rfl (fun h => write_fits _ (Bool.and_eq_true _ _ ▸ h).2)
theorem retireRole (key : Option Bytes) : Statement (.retireRole key) :=
  of_some rfl (key_fits _)
theorem retirePerformer (key : Option Bytes) : Statement (.retirePerformer key) :=
  of_some rfl (key_fits _)
theorem retirePack (key : Option Bytes) : Statement (.retirePack key) :=
  of_some rfl (key_fits _)
theorem retireCue (key : Option Bytes) : Statement (.retireCue key) :=
  of_some rfl (key_fits _)
theorem retireClip (key : Option Bytes) : Statement (.retireClip key) :=
  of_some rfl (key_fits _)
theorem retireLiveIngredient (key : Option Bytes) : Statement (.retireLiveIngredient key) :=
  of_some rfl (fun h => key_fits _ (Bool.and_eq_true _ _ ▸ h).1)
theorem retirePendingIngredient (key : Option Bytes) : Statement (.retirePendingIngredient key) :=
  of_some rfl (fun h => key_fits _ (Bool.and_eq_true _ _ ▸ h).1)
theorem retireZone (key : Option Bytes) : Statement (.retireZone key) :=
  of_some rfl (key_fits _)
theorem retireGroup (key : Option Bytes) : Statement (.retireGroup key) :=
  of_some rfl (key_fits _)
theorem cancelCall (key : Option Bytes) : Statement (.cancelCall key) :=
  of_some rfl (key_fits _)
theorem retirePattern (key : Option Bytes) : Statement (.retirePattern key) :=
  of_some rfl (key_fits _)
theorem readStatus (body : Body) : Statement (.readStatus body) :=
  of_some rfl (body_fits)
theorem clearEvents (body : Body) : Statement (.clearEvents body) :=
  of_some rfl (body_fits)
theorem insertCue (body : Body) : Statement (.insertCue body) :=
  of_some rfl (body_fits)
theorem standby (body : Body) : Statement (.standby body) :=
  of_some rfl (body_fits)
theorem clearStandby (body : Body) : Statement (.clearStandby body) :=
  of_some rfl (body_fits)
theorem go (body : Body) : Statement (.go body) :=
  of_some rfl (body_fits)
theorem hold (body : Body) : Statement (.hold body) :=
  of_some rfl (body_fits)
theorem unhold (body : Body) : Statement (.unhold body) :=
  of_some rfl (body_fits)
theorem timeFrame (body : Body) : Statement (.timeFrame body) :=
  of_some rfl (body_fits)
theorem packReport (body : Body) : Statement (.packReport body) :=
  of_some rfl (body_fits)
theorem swap (body : Body) : Statement (.swap body) :=
  of_some rfl (body_fits)
theorem take (body : Body) : Statement (.take body) :=
  of_some rfl (body_fits)
theorem discard (body : Body) : Statement (.discard body) :=
  of_some rfl (body_fits)
theorem setCheck (body : Body) : Statement (.setCheck body) :=
  of_some rfl (body_fits)
theorem placeCall (body : Body) : Statement (.placeCall body) :=
  of_some rfl (body_fits)
theorem endCall (body : Body) : Statement (.endCall body) :=
  of_some rfl (body_fits)
theorem stopShow (body : Body) : Statement (.stopShow body) :=
  of_some rfl (body_fits)
theorem resume (body : Body) : Statement (.resume body) :=
  of_some rfl (body_fits)
theorem endShow (body : Body) : Statement (.endShow body) :=
  of_some rfl (body_fits)
theorem evac (body : Body) : Statement (.evac body) :=
  of_some rfl (body_fits)
theorem clearEvac (body : Body) : Statement (.clearEvac body) :=
  of_some rfl (body_fits)
theorem dark (body : Body) : Statement (.dark body) :=
  of_some rfl (body_fits)
theorem wake (body : Body) : Statement (.wake body) :=
  of_some rfl (body_fits)
theorem restartAudio (body : Body) : Statement (.restartAudio body) :=
  of_some rfl (body_fits)
theorem useExternalClock (body : Body) : Statement (.useExternalClock body) :=
  of_some rfl (body_fits)
theorem retireRefusedTable (table : Option Byte) (key : Option Bytes) : Statement (.retireRefusedTable table key) :=
  of_some rfl (fun h => key_fits _ (Bool.and_eq_true _ _ ▸ h).2)

end BodyFits

end Sys2Proof.Laws
end

