-- ==== Sys2Proof/Laws/Requests.lean ====
section
/-! SUPPORT. Commands: what an internal event's command does by whether it has come due, what an answer makes of the state, and
when a WRITE, a RETIRE and a one-field request reach the operation they name. -/

namespace Sys2Proof.Machine

/-! ### Internal events (log entries 1 and 3) -/

/-- The command of an internal event is that event, taken in its turn. -/
theorem exec_command (e : Event) (s : State) : exec e.command s = .next (s.event e) := by cases e <;> rfl

/-- An event that stands first on the agenda is taken from it. -/
theorem event_due (e : Event) (t : State) : (t.due e).event e = t.takeEvent e := by
  simp [State.event, State.due, takeThrough]

/-- An event that does not stand on the agenda changes nothing. -/
theorem event_absent {e : Event} {s : State} (h : e ∉ s.agenda) : s.event e = s := by
  unfold State.event
  cases hs : s.agenda with
  | nil => rfl
  | cons f rest =>
    rw [hs, List.mem_cons, not_or] at h
    simp [takeThrough, hs, Ne.symm h.1, h.2]

/-! ### Answers -/

/-- A request that is taken leaves the answer's state with the response written. -/
theorem request_ok {code : Byte} {f : State → Answer} {s t : State} {body : Bytes} (h : f s.settle = .ok (t, body)) :
    s.request code f = t.answered code body := by
  simp only [State.request, h]
  rfl

/-- A request that is refused changes the response alone. -/
theorem request_error {code : Byte} {f : State → Answer} {s : State} {e : Status} (h : f s.settle = .error e) :
    s.request code f = s.settle.turnedAway code e := by
  simp only [State.request, h]
  rfl

@[simp] theorem plain_ok (t : State) : plain (.ok t) = .ok (t, []) := rfl
@[simp] theorem plain_error (e : Status) : plain (.error e) = .error e := rfl
@[simp] theorem readNone_empty : readNone (some []) = .ok () := rfl

theorem readMode_of_takes {m : Option Byte} {b : Bool} (h : modeTakes m b = true) :
    ∃ c, readMode m = .ok c ∧ (c && b) = false := by
  simp only [modeTakes, Bool.or_eq_true, Bool.and_eq_true, beq_iff_eq, Bool.not_eq_true'] at h
  rcases h with rfl | ⟨rfl, rfl⟩
  · exact ⟨false, rfl, rfl⟩
  · exact ⟨true, rfl, rfl⟩

/-- A WRITE whose key, mode and fields are good reaches its record's own operation. -/
theorem answerWrite_ok {κ α : Type} {w : WriteReq} {key : Except Status κ} {isPresent : κ → Bool}
    {read : Body → Except Status α} {act : κ → α → Except Status State} {k : κ} {a : α} (h1 : key = .ok k)
    (h2 : modeTakes w.mode (isPresent k) = true) (h3 : read w.fields = .ok a) :
    answerWrite w key isPresent read act = plain (act k a) := by
  obtain ⟨c, hc, hb⟩ := readMode_of_takes h2
  simp [answerWrite, h1, hc, h3, Except.bind, hb]

theorem answerRetire_ok {κ : Type} {key : Except Status κ} {act : κ → Except Status State} {k : κ} (h : key = .ok k) :
    answerRetire key act = plain (act k) := by
  simp [answerRetire, h, Except.bind]

theorem answerOne_ok {α : Type} {b : Body} {read : Bytes → Except Status α} {act : α → Except Status State} {a : α}
    (h : readOne read b = .ok a) : answerOne b read act = plain (act a) := by
  simp [answerOne, h, Except.bind]

end Sys2Proof.Machine
end

