-- ==== Sys2Proof/Tests/Slice0.lean ====
section
/-! SUPPORT. Tests of the model: ill-formed commands refused by the well-formedness checks, frames written out by hand,
the manual's worked examples, and one witness for each statement with hypotheses. -/

namespace Sys2Proof.Tests

-- One declaration at a time: elaborated side by side, the tests need more threads than the check allows.
set_option Elab.async false

open Sys2Proof.Machine

/-! ### Well-formedness: an ill-formed command for each check -/

theorem test_wf_voice_range : (Instr.clipEnd 17).wf = false := by decide
theorem test_wf_generator_range : (Instr.markEnd 0).wf = false := by decide
theorem test_wf_refill_bytes : (Instr.refillComplete [0, 0]).wf = false := by decide
theorem test_wf_ramp_entry : (Instr.rampComplete 128).wf = false := by decide
theorem test_wf_crossfade_output : (Instr.crossfadeEnd 25 (.role 0)).wf = false := by decide
theorem test_wf_source_role : (Instr.crossfadeEnd 1 (.role 96)).wf = false := by decide
theorem test_wf_source_input : (Instr.crossfadeEnd 1 (.input 65)).wf = false := by decide
theorem test_wf_source_programme : (Instr.crossfadeEnd 1 (.programme 0)).wf = false := by decide
theorem test_wf_pack_range : (Instr.packTimeout 96).wf = false := by decide
theorem test_wf_run_range : (Instr.actionDue 9).wf = false := by decide
theorem test_wf_call_range : (Instr.openingEnd 0).wf = false := by decide
theorem test_wf_line_range : (Instr.goLineActivation 13).wf = false := by decide
theorem test_wf_bad_frame_of_ff : (Instr.badFrame [0xFF, 0xFF]).wf = false := by decide
theorem test_wf_known_code : (Instr.unknownRequest 0x13).wf = false := by decide
theorem test_wf_broken_body : (Instr.go none).wf = false := by decide
theorem test_wf_long_value : (Instr.go (some [⟨1, List.replicate 256 0⟩])).wf = false := by decide +kernel
theorem test_wf_long_body : (Instr.go (some (List.replicate 16 ⟨1, List.replicate 255 0⟩))).wf = false := by
  decide +kernel
theorem test_wf_keyless_retire : (Instr.retireRole none).wf = false := by decide
theorem test_wf_long_key : (Instr.retireRole (some (List.replicate 256 0))).wf = false := by decide +kernel
theorem test_wf_tableless_lookup : (Instr.lookup ⟨none, some []⟩).wf = false := by decide
theorem test_wf_modeless_write : (Instr.writeRole ⟨some [1], none, some []⟩).wf = false := by decide
theorem test_wf_pending_key_of_live_write : (Instr.writeLiveIngredient ⟨some [1, 1, 1, 5], some 0, some []⟩).wf = false := by
  decide
theorem test_wf_writable_refused_table : (Instr.writeRefusedTable (some 1) ⟨some [1], some 0, some []⟩).wf = false := by
  decide
theorem test_wf_retirable_refused_table : (Instr.retireRefusedTable (some 15) (some [1])).wf = false := by decide

/-! ### Frames written out by hand (section 11.6): one a family of requests. The CRCs are worked out by R190. -/

/-- R190: the CRC of three bytes of 0 is 2B. -/
theorem test_crc : crc8 [0x00, 0x00, 0x00] = 0x2B ∧ crc8 [0x13, 0x00, 0x00] = 0x34 := by decide +kernel

theorem test_frame_nop : frameCommand [0x00, 0x00, 0x00, 0x2B] = .nop (some []) := by decide +kernel

theorem test_frame_lookup :
    frameCommand ([0x01, 0x00, 0x03, 0x04, 0x01, 0x09] ++ [crc8 [0x01, 0x00, 0x03, 0x04, 0x01, 0x09]]) =
      .lookup ⟨some 4, some [9]⟩ := by decide +kernel

theorem test_frame_write_role :
    frameCommand ([0x02, 0x00, 0x08, 0x01, 0x01, 0x05, 0x00, 0x02, 0x02, 0x48, 0x49] ++
      [crc8 [0x02, 0x00, 0x08, 0x01, 0x01, 0x05, 0x00, 0x02, 0x02, 0x48, 0x49]]) =
      .writeRole ⟨some [5], some 0, some [⟨2, [0x48, 0x49]⟩]⟩ := by decide +kernel

theorem test_frame_write_pending_ingredient :
    frameCommand ([0x02, 0x00, 0x0B, 0x0C, 0x04, 0x03, 0x01, 0x00, 0x07, 0x01, 0x02, 0x02, 0x03, 0xC0] ++
      [crc8 [0x02, 0x00, 0x0B, 0x0C, 0x04, 0x03, 0x01, 0x00, 0x07, 0x01, 0x02, 0x02, 0x03, 0xC0]]) =
      .writePendingIngredient ⟨some [3, 1, 0, 7], some 1, some [⟨2, [0x03, 0xC0]⟩]⟩ := by decide +kernel

theorem test_frame_retire_clip :
    frameCommand ([0x03, 0x00, 0x04, 0x08, 0x02, 0x01, 0xFF] ++ [crc8 [0x03, 0x00, 0x04, 0x08, 0x02, 0x01, 0xFF]]) =
      .retireClip (some [0x01, 0xFF]) := by decide +kernel

theorem test_frame_time_frame :
    frameCommand ([0x18, 0x00, 0x05, 0x01, 0x03, 0x01, 0x5F, 0x90] ++
      [crc8 [0x18, 0x00, 0x05, 0x01, 0x03, 0x01, 0x5F, 0x90]]) =
      .timeFrame (some [⟨1, [0x01, 0x5F, 0x90]⟩]) := by decide +kernel

theorem test_frame_unknown_code :
    frameCommand ([0x07, 0x00, 0x00] ++ [crc8 [0x07, 0x00, 0x00]]) = .unknownRequest 0x07 := by decide +kernel

theorem test_frame_too_short : frameCommand [0x13, 0x00, 0x00] = .badFrame [0x13, 0x00, 0x00] := by decide +kernel

theorem test_frame_after_crc_discarded :
    frameCommand ([0x13, 0x00, 0x00] ++ [crc8 [0x13, 0x00, 0x00], 0x55, 0x55]) = .go (some []) := by decide +kernel

/-- The buffer after reset holds the response to NOP (R189). -/
theorem test_response_after_reset : State.reset.response = responseFrame 0x00 0x00 [] := by decide +kernel

/-! ### The manual's worked numbers -/

/-- Section 1.1: the sample 1,000,000 at code 949. -/
theorem test_contribution_949 : contribution 1000000 949 = 727829 := by decide +kernel

/-- Section 1.1: halves go toward +∞: 5 and −5 at code 936. -/
theorem test_contribution_halves : contribution 5 936 = 3 ∧ contribution (-5) 936 = -2 := by decide +kernel

/-- Section 1.2: level 1008, master 936, rebind 960, protect 0 and stage duck 120. -/
theorem test_combined_code : combine [1008, 936, 960] [0, 120] = 864 := by decide +kernel

/-- R5: the most negative sample at unity is limited and counts as saturated. -/
theorem test_most_negative_sample : limit (-8388608) = -8388607 ∧ saturates (-8388608) = true := by decide +kernel

/-- R21: a gate closing from OPEN moves exactly 36 codes a tick. -/
theorem test_gate_close_steps : (Gate.atOpen.close.term.glide.map fun g => (g.q, g.r)) = some (2359296, 0) := by decide +kernel

/-- R21: a gate reopened at 816 has q = 943,718 and r = 4. -/
theorem test_gate_reopen_steps :
    ((Gate.open ⟨.closing, ⟨816 * 65536, none⟩⟩).term.glide.map fun g => (g.q, g.r)) = some (943718, 4) := by decide +kernel

/-- R165: the triangle passes 0 rising at 4,194,304 and is limited at its ends. -/
theorem test_triangle : triangle 4194304 = 0 ∧ triangle 8388608 = 8388607 ∧ triangle 0 = -8388607 := by decide +kernel

/-- R165: an advance that starts on the crossing does not pass it, one that ends on it does. -/
theorem test_crossing :
    passedCrossing (advancePhase 4194304 100) 100 = false ∧ passedCrossing (advancePhase 4194204 100) 100 = true := by
  decide +kernel

/-! ### States of the witnesses -/

/-- The state after reset in a house state. -/
def inHouse (h : HouseState) : State := { State.reset with house := { State.reset.house with state := h } }

/-- The state after reset with a clock. -/
def withClock (c : Clock) : State := { State.reset with clock := c }

def external : Clock := { State.reset.clock with selecting := false, wclk := true, source := .external }
def internal : Clock := { State.reset.clock with selecting := false, wclk := true, source := .internal }

/-- A clip of 100 samples with no loop. -/
def clip : Clip := { start := 0, length := 100, loop := none, loops := 0, trim := 960, label := [] }

/-- The state after reset with voice 1 as given, and clip 7. -/
def withVoice (f : Voice → Voice) : State := (State.setVoice 1 f { State.reset with clips := [(7, clip)] })

def cueA : Cue := { label := [], trigger := .manual, follow := none, branch := none, actions := [⟨.flag 3 true, 0⟩] }
def cueT : Cue := { cueA with trigger := .timecode 250 }

def latched (c : Cue) : Latch := Latch.of 1250 c

/-- The state with a cue engine changed. -/
def withCue (f : CueEngine → CueEngine) (s : State) : State := { s with cue := f s.cue }

def runA : Run :=
  { order := 0, number := 1250, label := [], actions := [⟨⟨.flag 3 true, 5⟩, false⟩], elapsed := 5, follow := .waiting 5 }

def call : Call :=
  { priority := 1, kind := .live 5, pattern := none, order := 0, entries := [(1, .active)], phase := .opening, timer := 0,
    voice := .none, gen := none, liveTime := 0, ptt := false, evac := false, cut := false }

/-- The state after reset with call 1 as given. -/
def withCall (f : Call → Call) : State :=
  { State.reset with relay := { State.reset.relay with calls := [(1, f call)] } }

def tune : Tune :=
  { alternate := true, primary := 100, secondary := 200, mark := 1, space := 1, cycles := 2, rests := 1, level := 960 }

def chiming : Generator :=
  { Generator.reset with use := .chime, call := some 1, pattern := some 2, shadow := some tune, phase := 4194304, step := 100 }

/-- The state after reset with generator 2 as given, and pattern 2. -/
def withGen (f : Generator → Generator) : State :=
  State.setGen 2 (fun _ => f chiming) { State.reset with patterns := [(2, ⟨[], tune⟩)] }

/-- The state after reset with line 1 an enabled input of a function, its debounced state as given. -/
def withLine (f : LineFunction) (active : Bool) (s : State) : State :=
  s.setLine 1 fun l => { l with function := f, enabled := true, active := active }

def pack (h : Health) : Pack := { Pack.fresh 3 with health := h, age := 2000 }

def zone : Zone := ZoneWrite.create ⟨[], none, none, none, none, none, none, none, false⟩

/-- Role 5 of performer 6 with pack 7 as its primary and pack 8 as its spare, one zone and one cue. -/
def staged : State :=
  { State.reset with
    roles := [(5, ⟨[0x48], some 6⟩), (9, ⟨[], none⟩)], performers := [(6, ⟨[], some 7, some 8, some 1, true⟩)],
    packs := [(7, pack .good), (8, { pack .good with channel := 4 })], zones := [(1, zone)],
    cues := [(1250, cueA), (1300, cueA)], clips := [(7, clip)], patterns := [(2, ⟨[], tune⟩)], groups := [(1, ⟨[], [1]⟩)] }

/-- Output 1 with a live role ingredient and a pending recipe. -/
def recipes : State :=
  State.setOutput 1 (fun b => { b with live := [staged.newIngredient (.role 5)], pending := some [⟨.input 2, 900⟩] }) staged

/-- Output 1 with two live ingredients, the first of them pending too, at another level. -/
def mixed : State :=
  recipes.setOutput 1 fun b =>
    { b with live := b.live ++ [staged.newIngredient (.input 3)], pending := some [⟨.role 5, 800⟩, ⟨.input 2, 900⟩] }

/-- A ramp of output 1's master at the end of its ticks. -/
def doneRamp : Ramp :=
  { element := .foldbackMaster 1, glide := { Glide.between (960 * 65536) (900 * 65536) 5 false with left := 0 },
    owner := .edit, frozen := false, action := none }

/-- The state after reset with ramps in the pool. -/
def ramping (rs : Table Ramp) : State := { State.reset with ramps := rs }

/-- A pool with no free entry, no ramp of it on output 1's master. -/
def fullPool : Table Ramp := (List.range 128).map fun e => (e, { doneRamp with element := .protect (e + 1) })

/-- A CLIP call of priority 2 that waits for zone 1 and the stage. -/
def waitingCall : Call :=
  { call with priority := 2, kind := .clip (some 7), entries := [(0, .waiting), (1, .waiting)], phase := .idle }

/-- Call 2 waits for the stage, which is free, and for zone 1, which call 1 of priority 1 occupies in OPENING. -/
def contended : State :=
  { staged with
    zones := [(1, { zone with occupant := some ⟨1, 1⟩ })],
    relay := { staged.relay with calls := [(1, call), (2, waitingCall)], lastId := 2, orderCount := 2 } }

/-- Call 1 occupies the stage and zone 1. -/
def announcing : State :=
  { staged with
    zones := [(1, { zone with occupant := some ⟨1, 1⟩ })],
    relay := { staged.relay with
      calls := [(1, { call with entries := [(0, .active), (1, .active)] })], stage := some ⟨1, 1⟩, lastId := 1 } }

/-! ### Witnesses: the link, the reset and the clock -/

/-- With nothing due a state is its own settled state, so every witness below is of a settled state. -/
theorem witness_settled : State.reset.settle = State.reset ∧ staged.settle = staged ∧ recipes.settle = recipes :=
  ⟨rfl, rfl, rfl⟩

theorem witness_StepRunsFrontCommand : State.reset.pending = [] := rfl

theorem witness_EventsTakeTheirTurn :
    State.reset.agenda = [] ∧ (State.takeEvent (.wakeLine 1) State.reset).agenda = [] ∧
    Event.flashPhase ≠ .darkGapEnd ∧
    (State.takeEvent .flashPhase { State.reset with agenda := [.darkGapEnd, .timecodeGo] }).agenda =
      .darkGapEnd :: [.timecodeGo] := by decide +kernel

theorem witness_FrameDecodesToItsCommand : (commandFrame (.go (some []))).isSome = true := by decide +kernel

theorem witness_LinkAnswers : State.reset.settle = State.reset ∧ 4 < 5 := ⟨rfl, by decide⟩

theorem witness_RefusedRequestsChangeTheResponseAlone :
    (Instr.swap (some [⟨1, [7]⟩])).codeBody = some (0x21, [1, 1, 7]) ∧
    ((match exec (.swap (some [⟨1, [7]⟩])) staged with
      | .next u => u.response
      | .fault _ => []
      | .refused _ => []).head? ≠ some 0x00) ∧
    readKey 1 0 95 (some [5]) = .ok 5 ∧ staged.roles.has 5 = true ∧ staged.packs.has 7 = true ∧
    readKey 1 0 127 (some [6]) = .ok 6 ∧ staged.performers.has 6 = true ∧
    readCueKey (some [0x00, 0x0C, 0x32]) = .ok 1250 ∧ staged.cues.has 1250 = true ∧
    readKey 2 0 511 (some [0, 7]) = .ok 7 ∧ staged.clips.has 7 = true ∧
    readKey 1 1 16 (some [1]) = .ok 1 ∧ staged.zones.has 1 = true ∧ readKey 1 1 8 (some [1]) = .ok 1 ∧
    staged.groups.has 1 = true ∧ readKey 1 0 15 (some [2]) = .ok 2 ∧ staged.patterns.has 2 = true ∧
    readKey 1 1 24 (some [24]) = .ok 24 ∧ readKey 1 1 12 (some [12]) = .ok 12 ∧
    readLiveKey (some [1, 0, 0, 5]) = .ok ⟨1, false, .role 5⟩ ∧
    (ingredientOf (recipes.output 1).live (.role 5)).isSome = true ∧
    readPendingKey (some [1, 1, 1, 2]) = .ok ⟨1, true, .input 2⟩ ∧ .input 2 ∈ recipes.sources 1 true := by decide +kernel

theorem witness_LookupAnswersTheRecord :
    staged.lookup ⟨some 5, some []⟩ = .ok (encodeEntries staged.flagsRecord) ∧
    (5#8).toNat ≤ 95 ∧ staged.roles.get 5 = some ⟨[0x48], some 6⟩ ∧ staged.roles.get (6#8).toNat = none := by decide +kernel

theorem witness_NextKeyWalksInOrder :
    staged.nextKey ⟨some 1, some []⟩ = .ok [5] ∧ staged.roles = (5, ⟨[0x48], some 6⟩) :: [(9, ⟨[], none⟩)] ∧
    staged.roles.sorted = true ∧ staged.roles.get 9 = some ⟨[], none⟩ ∧ (5#8).toNat < 9 ∧ staged.roles.above 9 = none ∧
    (mixed.outputs.head?.map fun kb => (kb.1, kb.2.live)) =
      some (1, [] ++ staged.newIngredient (.role 5) :: staged.newIngredient (.input 3) :: []) ∧
    between 1 24 1 = true ∧ (Source.role 5).wf = true := by
  decide +kernel

theorem witness_StatusReadAndCleared :
    readClear (some [⟨1, [0x40]⟩, ⟨2, [0x01]⟩]) = .ok (0x40#32, 1#4) := by decide +kernel

/-- The status record after reset: PRESET on the internal clock, nothing raised, 8192 actions free. -/
theorem test_status_record_after_reset :
    State.reset.statusRecord =
      [0, 1] ++ List.replicate 16 0 ++ [0] ++ [0, 0] ++ [0x20, 0x00] ++ [0, 0] := by decide +kernel

theorem witness_ResetAndClockEvents :
    State.reset.clock.selecting = true ∧ external.wclk = true ∧ external.source = .external ∧ internal.wclk = true ∧
    internal.source = .internal ∧ ({ internal with wclk := false } : Clock).selecting = false ∧
    ({ internal with switching := true } : Clock).switching = true ∧ (withClock external).settle = withClock external ∧
    State.reset.house.tickDiv < 48 ∧ State.reset.clock.source = .internal ∧ State.reset.clock.acc < 65536 ∧
    State.reset.settings.divFrac < 65536 :=
  ⟨rfl, rfl, rfl, rfl, rfl, rfl, rfl, rfl, by decide, rfl, by decide, by decide⟩

/-! ### Witnesses: levels, sample periods and ticks -/

theorem witness_ContributionRoundsToNearest :
    (1 ≤ 1 ∧ 1 ≤ 1023) ∧ (1 ≤ 1023 ∧ 1023 ≤ 1023) ∧ (-8388608 ≤ (-8388608 : Int)) ∧ ((8388607 : Int) ≤ 8388607) ∧
    (1 ≤ 23 ∧ 23 ≤ 23) := by decide

theorem witness_CombinedCodeLaw :
    ([960, 0] ≠ []) ∧ 0 ∈ [960, 0] ∧ 0 ∉ [960] ∧ ([960].sum ≤ 960 * ([960].length - 1) + [960].sum) ∧
    ([1023, 961].sum > 1023 + 960 * ([1023, 961].length - 1) + [0].sum) ∧
    (960 * ([1023, 960].length - 1) + [0].sum < [1023, 960].sum ∧
      [1023, 960].sum ≤ 1023 + 960 * ([1023, 960].length - 1) + [0].sum) := by decide

theorem witness_RampLandsOnItsTarget : (0 < 1) ∧ (1 ≤ 1) ∧ (0 < 1023) ∧ (3 ≤ 7) ∧ (7 ≤ 7) := by decide

theorem witness_MoveTakesItsCase :
    (inHouse .dark).inDark = true ∧ State.reset.inDark = false ∧ 0 < 1 ∧
    (ramping [(0, doneRamp)]).rampOn (.foldbackMaster 1) = some (0, doneRamp) ∧
    (ramping [(0, doneRamp)]).rampOn (.foldbackMaster 2) = none ∧ (ramping [(0, doneRamp)]).ramps.get 1 = none ∧
    (∀ k, k < 1 → (ramping [(0, doneRamp)]).ramps.get k ≠ none) ∧ (ramping fullPool).rampOn (.foldbackMaster 1) = none ∧
    (∀ e, e < 128 → (ramping fullPool).ramps.get e ≠ none) ∧
    ((withVoice fun x => { x with pending := some ⟨7, [1], .none, none, .cue⟩ }).voice 1).pending = some ⟨7, [1], .none, none, .cue⟩ ∧
    (State.reset.voice 1).pending = none ∧ Element.voice 1 ≠ .voice 2 := by decide +kernel

def silence : InPorts := ⟨Vector.replicate 16 0, Vector.replicate 16 0, Vector.replicate 16 0, Vector.replicate 16 0⟩

/-- What the sums of a sample period are formed from: a CUE voice on programme output 1, zone 1 and the stage in a call's
message, a line check and a muted output. -/
def sounding : State :=
  { announcing with
    voices := State.reset.voices.update 1 fun x =>
      { x with state := .playing, owner := .cue, clip := some 7, route := [1], primed := true, buffer := [1] },
    outputs := (mixed.outputs.update 2 fun b => { b with check := .mute }).update 3 fun b => { b with check := .tone },
    relay := { announcing.relay with calls := announcing.relay.calls.update 1 fun c => { c with phase := .message } } }

/-- The same in its chime, from generator 2. -/
def tolling : State :=
  { sounding with
    gens := sounding.gens.update 2 fun _ => chiming,
    relay := { sounding.relay with
      calls := sounding.relay.calls.update 1 fun c => { c with phase := .chime, gen := some 2 } } }

theorem witness_SamplesFormed :
    sounding.inDark = false ∧ sounding.house.tickDiv < 48 ∧
    (∃ b voices, sounding.dividePeriod.soundVoices = (b, voices) ∧ b.soundGens.zones.get 2 = none ∧
      (b.soundGens.outputs.get 24).isSome = true ∧ (b.soundGens.programmes.get 8).isSome = true ∧
      (b.soundGens.zones.get 1).isSome = true) := ⟨by decide +kernel, by decide +kernel, _, _, rfl, by decide +kernel⟩

theorem witness_SamplesFormed_terms :
    (sounding.output 1).check = .normal ∧ (sounding.output 2).check = .mute ∧ (sounding.output 3).check = .tone ∧
    (sounding.voices.get 1).map (fun x => (x.clip, x.owner, x.state)) = some (some 7, .cue, .playing) ∧
    sounding.clips.get 7 = some clip ∧ (sounding.voices.get 2).map Voice.state = some .idle ∧
    (sounding.call 1).map (fun c => (c.kind, c.phase)) = some (.live 5, .message) ∧
    (sounding.zones.get 1).map Zone.occupant = some (some ⟨1, 1⟩) ∧ sounding.relay.stage = some ⟨1, 1⟩ ∧
    staged.relay.stage = none ∧ (tolling.call 1).map (fun c => (c.phase, c.gen)) = some (.chime, some 2) ∧
    tolling.gens.get 2 = some chiming ∧ chiming.shadow = some tune ∧ call.phase = .opening := by decide +kernel

theorem witness_SamplePeriodSendsTheLastPeriod :
    State.reset.inDark = false ∧
    ({ State.reset with house := { State.reset.house with tickDiv := 47 } } : State).house.tickDiv < 48 ∧
    (1 ≤ 1 ∧ 1 ≤ 16) ∧ (1 ≤ 16 ∧ 16 ≤ 16) := by decide +kernel

theorem witness_DarkStandsStill : (inHouse .dark).inDark = true ∧ (inHouse .dark).house.tickDiv < 48 := by decide +kernel

theorem witness_ControlTickCounts : (inHouse .running).inDark = false ∧ (inHouse .running).standing = true := by
  decide +kernel

/-- Ramps on their last step, frozen and run out; a gate on its last step; runs, a call and a pack at their limits. -/
def ticking : State :=
  { staged with
    ramps := [(0, { doneRamp with glide := { doneRamp.glide with left := 1 } }),
      (1, { doneRamp with element := .foldbackMaster 2, frozen := true }), (2, { doneRamp with element := .foldbackMaster 3 })],
    voices := State.reset.voices.update 1 fun x =>
      { x with gate := ⟨.closing, ⟨0, some { Glide.between 0 0 10 false with left := 1 }⟩⟩ },
    cue := { staged.cue with runs := [(1, { runA with elapsed := 4 })] },
    relay := { staged.relay with calls := [(1, { call with timer := 1, liveTime := 120000 })] } }

theorem witness_TickSteps :
    ticking.inDark = false ∧ ticking.standing = true ∧ ticking.rampLaw = true ∧
    (ticking.ramps.map fun er => (er.2.frozen, er.2.glide.left)) = [(false, 1), (true, 0), (false, 0)] ∧
    ticking.rampOn (.foldbackMaster 4) = none ∧
    (ticking.voices.get 1).map (fun x => (x.gate.state, x.gate.term.step.due)) = some (.closing, true) ∧
    ticking.house.held = false ∧ ticking.runsLaw = true ∧
    ticking.cue.runs.get 1 = some { runA with elapsed := 4 } ∧ (5 ≤ min (4 + 1) 60000) ∧
    ticking.relay.calls.sorted = true ∧ ticking.call 1 = some { call with timer := 1, liveTime := 120000 } ∧
    ticking.settings.liveMaximum * 1000 < 120000 + 1 ∧ ticking.packs.sorted = true ∧
    ticking.packs.get 7 = some (pack .good) ∧ ticking.settings.reportTimeout ≤ min (2000 + 1) 10000 := by decide +kernel

/-- A ramp's element keeps the level that is set on it. -/
theorem witness_TickSteps_element :
    ∀ f, (State.setFine (.foldbackMaster 1) f ticking).fine (.foldbackMaster 1) = f := fun _ => rfl

/-- The dark gap on its last tick, and a flash phase on its 250th. -/
theorem witness_TickSteps_lamp :
    let s := withCue (fun c => { c with darkGap := 1, lamp := .flash, flashCount := 249 }) ticking
    s.inDark = false ∧ s.standing = true ∧ s.cue.darkGap = 1 ∧ s.cue.lamp = .flash ∧ 250 ≤ s.cue.flashCount + 1 := by
  decide +kernel

/-- Role 5's crossfade in output 1, its outgoing term on its last step and its rebind term on its last step too. -/
def crossfading : State :=
  mixed.setOutput 1 fun b => { b with live := b.live.map fun i =>
    { i with
      rebind := ⟨0, some { Glide.between 0 (960 * 65536) 20 false with left := 1 }⟩,
      outgoing := some ⟨3, ⟨0, some { Glide.between (960 * 65536) 0 20 true with left := 1 }⟩⟩ } }

theorem witness_TickSteps_crossfades :
    crossfading.settle = crossfading ∧ crossfading.inDark = false ∧ crossfading.standing = true ∧
    (((crossfading.outputs.get 1).bind fun b => b.live[1]?).map fun i =>
      (i.src, i.rebind.step.due, i.outgoing.map fun (x : Outgoing) => x.term.step.due)) =
      some (.input 3, true, some true) := by decide +kernel

/-- The chase one tick before its frame advance and its silence, and at its freewheel limit, LOCKED, ACQUIRING and in FREEWHEEL; a
latched copy armed for the frame it shows. -/
def chaseAt (c : ChaseState) : State :=
  { inHouse .running with
    chase := { state := c, frame := 250, tick := 39, count := 8, silence := 119, freewheel := 2000 },
    cue := { State.reset.cue with
      latch := some { number := 1250, cue := ⟨[], .timecode 250, none, none, []⟩, stale := false, armed := true } } }

theorem witness_TickSteps_chase :
    (chaseAt .locked).inDark = false ∧ (chaseAt .locked).standing = true ∧ (chaseAt .locked).chase.state = .locked ∧
    40 ≤ (chaseAt .locked).chase.tick + 1 ∧ 120 ≤ (chaseAt .acquiring).chase.silence + 1 ∧
    (chaseAt .acquiring).chase.state = .acquiring ∧ (chaseAt .freewheel).chase.state = .freewheel ∧
    (chaseAt .freewheel).settings.freewheelLimit < min ((chaseAt .freewheel).chase.freewheel + 1) 10001 ∧
    ((chaseAt .locked).cue.latch.map fun l => (l.armed, l.cue.trigger)) = some (true, .timecode 250) ∧
    250 ≤ (chaseAt .locked).chase.frame ∧ (chaseAt .locked).house.state = .running := by decide +kernel

theorem witness_TickSteps_lines :
    let s := withLine .go false State.reset
    s.standing = true ∧ (s.line 1).live = true ∧ (s.line 2).live = false ∧ (s.line 1).pinActive true ≠ (s.line 1).active ∧
    10 ≤ 9 + 1 ∧ s.reports .go = true ∧ edgeEvent .go true 1 = some (.goLine 1) ∧ edgeEvent .go false 1 = none ∧
    (inHouse .dark).reports .go = false := by decide +kernel

/-- Voice 1 in a playback of clip 7, at a place and with a buffer. -/
def playing (position : Nat) (primed : Bool) (buffer : List Sample) : State :=
  withVoice fun x =>
    { x with state := .playing, owner := .cue, clip := some 7, position := position, primed := primed, buffer := buffer }

theorem witness_PlaybackAdvances :
    (playing 99 true []).standing = true ∧ (playing 99 true []).inDark = false ∧
    (playing 99 true []).house.tickDiv < 48 ∧
    ((playing 99 true []).voices.get 1).map (fun x => (x.clip, x.state, x.primed, x.buffer)) =
      some (some 7, .playing, true, []) ∧
    ((playing 0 false [5]).voices.get 1).map Voice.buffer = some (5 :: []) ∧
    ((playing 0 false []).voices.get 1).map (fun x => (x.primed, x.buffer)) = some (false, []) ∧
    clip.length ≤ (clip.advance ⟨99, .none⟩).index ∧ (playing 0 false []).voiceUnit.refill = none ∧
    ((State.setVoice 1 (fun x => { x with state := .paused, tail := 1 }) (playing 0 true [5])).voices.get 1).map
      (fun x => (x.state, x.tail)) = some (.paused, 1) ∧ clip.loop = none ∧
    ({ clip with loop := some (10, 20) } : Clip).loop = some (10, 20) ∧ 19 + 1 = 20 := by decide +kernel

/-- Voice 1 in CLOSING, for a steal or an end, CUE-owned with the stop context held or not, with samples in its buffer. -/
def closing (cause : ClosingCause) (held : Bool) : State :=
  let s := State.setVoice 1 (fun x => { x with state := .closing, cause := some cause }) (playing 0 true [5])
  { s with house := { s.house with held := held } }

/-- A stolen voice that advances and one that holds while parked, one closing for an end, one with no clip, one that asks for its
first refill and one that has asked. -/
theorem witness_PlaybackAdvances_closing :
    ((closing .steal false).voices.get 1).map (fun x => (x.state, x.cause, x.owner, x.primed)) =
      some (.closing, some .steal, .cue, true) ∧
    (closing .steal false).house.held = false ∧ (closing .steal true).house.held = true ∧
    ((closing .ending false).voices.get 1).map Voice.cause = some (some .ending) ∧
    (State.reset.voices.get 1).map (fun x => (x.clip, x.buffer)) = some (none, []) ∧
    ((playing 0 false []).voices.get 1).map
      (fun x => (decide (x.cursor.index < clip.length), decide (x.buffer.length ≤ 128), x.requested)) =
      some (true, true, false) ∧ (playing 0 false []).voiceUnit.refill = none ∧
    ((State.setVoice 1 (fun x => { x with requested := true }) (playing 0 true [5])).voice 1).requested = true := by
  decide +kernel

/-- Voice 1 PAUSED with samples of its tail unsounded, its gate CLOSED. -/
def shut : State := State.setVoice 1 (fun x => { x with state := .paused, gate := ⟨.closed, ⟨0, none⟩⟩ }) (playing 0 true [5])

theorem witness_PlaybackAdvances_closed :
    shut.standing = true ∧ shut.inDark = false ∧ shut.house.tickDiv < 48 ∧
    (shut.voices.get 1).map (fun x => (x.clip, x.state, x.gate.state, x.buffer, x.tail)) =
      some (some 7, .paused, .closed, [5], 0) ∧
    (((State.setVoice 1 (fun x => { x with state := .paused }) (playing 0 true [5])).voice 1).gate.state ≠ .closed) := by
  decide +kernel

/-- R101: a PAUSED voice sounds 0 once its gate is CLOSED, and its tail stands; under an open gate it sounds the sample. -/
theorem test_closed_gate_silences_tail :
    (shut.soundVoices.2.get 1, (shut.soundVoice 1).1.voices.get 1 |>.map Voice.tail) = (some 0, some 0) ∧
    (State.setVoice 1 (fun x => { x with state := .paused }) (playing 0 true [5])).soundVoices.2.get 1 = some 5 := by
  decide +kernel

/-! ### Witnesses: events -/

theorem witness_RampCompleteSettlesItsElement :
    (ramping [(0, doneRamp)]).ramps.get 0 = some doneRamp ∧ doneRamp.glide.left = 0 := by decide +kernel

/-- A gate at the end of its ticks. -/
def dueGate (g : GateState) : Gate := ⟨g, ⟨0, some { Glide.between 0 0 1 false with left := 0 }⟩⟩

def pendingPlay : PendingPlay := { clip := 7, route := [1], loops := .none, held := none, owner := .cue }

theorem witness_GateEndsSettleTheVoice :
    (Gate.atOpen.state = .opened ∧ (⟨.closed, ⟨0, none⟩⟩ : Gate).state = .closed) ∧ (dueGate .closing).term.due = true ∧ (dueGate .opening).term.due = true ∧
    (((withVoice fun x => { x with state := .paused, gate := dueGate .closing }).voices.get 1).map Voice.state) = some .paused ∧
    (((withVoice fun x => { x with state := .closing, cause := some .ending }).voices.get 1).map Voice.cause) =
      some (some .ending) ∧
    (((withVoice fun x => { x with state := .closing, cause := some .steal, pending := some pendingPlay }).voices.get 1).map
      Voice.pending) = some (some pendingPlay) := by decide +kernel

def ended : Voice → Voice := fun x => { x with state := .playing, owner := .cue, clip := some 7, position := 100, primed := true }

theorem witness_ClipEndEndsThePlayback :
    (withVoice ended).voices.get 1 = some (ended Voice.reset) ∧ (ended Voice.reset).state ≠ .idle ∧
    (withVoice ended).clips.get 7 = some clip ∧ clip.length ≤ (ended Voice.reset).position ∧
    (ended Voice.reset).owner = .cue ∧ ({ ended Voice.reset with owner := .call 1 } : Voice).owner = .call 1 ∧
    ({ ended Voice.reset with state := .closing, cause := some .steal } : Voice).cause = some .steal := by decide +kernel

/-- Calls 2 and 3 wait for a voice; call 3, of the same priority, was created first. -/
def queued : State :=
  { staged with
    voiceUnit := { staged.voiceUnit with waiting := [2, 3] },
    relay := { staged.relay with
      calls := [(2, { waitingCall with order := 5 }), (3, { waitingCall with order := 4 })] } }

theorem witness_ClipEndEndsThePlayback_waiting :
    (∀ id ∈ staged.voiceUnit.waiting, staged.call id = none) ∧ 3 ∈ queued.voiceUnit.waiting ∧
    queued.call 3 = some { waitingCall with order := 4 } ∧ waitingCall.kind = .clip (some 7) ∧
    (∀ other ∈ queued.voiceUnit.waiting, other = 3 ∨ ((queued.call other).map fun d => (d.priority, d.order)) =
      some (2, 5)) ∧ 4 < 5 := by decide +kernel

def refilling : Refill :=
  { voice := 1, addresses := [0, 3], reads := [⟨0x13, 0, 2⟩], disowned := false, keep := 2, passed := 0, clocks := 88, divisor := 1 }

def asking : State := withVoice fun x => { x with state := .playing, owner := .cue, clip := some 7, requested := true }

theorem witness_RefillGrantServesInTurn :
    asking.voiceUnit.refill = none ∧ asking.inDark = false ∧ 1 = (asking.voiceUnit.lastServed + 0) % 16 + 1 ∧
    15 < 16 ∧ (∀ j, j < 15 → (({ asking with voiceUnit := { asking.voiceUnit with lastServed := 1 } } : State).voice
      ((1 + j) % 16 + 1)).requested = false) ∧ 1 = (1 + 15) % 16 + 1 ∧ (asking.voice 1).requested = true ∧
    (asking.voices.get 1).map (fun x => (x.clip, x.cursor.index)) = some (some 7, 0) ∧ asking.clips.get 7 = some clip ∧
    0 < clip.length ∧ 9 ≠ 3 + 1 := by decide +kernel

/-- A stolen voice asks until its gate is CLOSED, a voice whose refill is disowned asks again, and one with 129 samples does
not; the plan of a clip of 100 samples is short. -/
theorem witness_RefillGrantServesInTurn_asks :
    let x : Voice := { ended Voice.reset with state := .closing, cause := some .steal }
    (withVoice fun _ => x).voices.get 1 = some x ∧ x.clip = some 7 ∧ staged.clips.get 7 = some clip ∧ x.state ≠ .idle ∧
    x.gate.state = .opened ∧ x.buffer.length ≤ 128 ∧ x.requested = false ∧ x.cursor.index < clip.length ∧
    ({ x with gate := ⟨.closed, ⟨0, none⟩⟩ } : Voice).gate.state = .closed ∧
    ¬((List.replicate 129 (0 : Sample)).length ≤ 128) ∧ ({ refilling with disowned := true } : Refill).disowned = true ∧
    (clip.plan 128 ⟨0, .none⟩).1.length = 100 ∧ clip.length ≤ (clip.plan 128 ⟨0, .none⟩).2.index := by decide +kernel

theorem witness_RefillCompleteFillsTheBuffer :
    ({ asking with voiceUnit := { asking.voiceUnit with refill := some refilling } } : State).voiceUnit.refill = some refilling ∧
    (asking.voices.get refilling.voice).isSome = true := by decide +kernel

/-- Voice 1, which has something left to fetch, and voice 2, which waits for the port. -/
theorem witness_RefillCompleteFillsTheBuffer_grant :
    let s := asking.setVoice 2 fun x => { x with state := .playing, owner := .cue, clip := some 7, requested := true }
    s.inDark = false ∧ (s.voices.get 2).map Voice.requested = some true ∧ 2 ≠ refilling.voice ∧ 2 ≤ 16 ∧
    (s.voices.get 1).map (fun x => (x.clip, x.state, x.buffer.length)) = some (some 7, .playing, 0) ∧
    s.clips.get 7 = some clip ∧ (s.voice 1).cursor.index < clip.length ∧ refilling.disowned = false := by decide +kernel

/-- The bytes 80 00 01 are the sample −8,388,607, and 7F FF FF is 8,388,607. -/
theorem witness_RefillCompleteFillsTheBuffer_bytes :
    let data : Bytes := [0x80, 0x00, 0x01, 0x7F, 0xFF, 0xFF]
    1 < [0, 3].length ∧ data[3 * 1]? = some 0x7F ∧ data[3 * 1 + 1]? = some 0xFF ∧ data[3 * 1 + 2]? = some 0xFF ∧
    (refillSamples [0, 3] data).map BitVec.toInt = [-8388607, 8388607] := by decide +kernel

theorem witness_PackTimeoutLosesThePack :
    staged.packs.get 7 = some (pack .good) ∧ staged.inDark = false ∧ (inHouse .dark).inDark = true ∧
    staged.settings.reportTimeout ≤ (pack .good).age ∧ (pack .good).health = .good ∧
    staged.namedBy 7 = some (6, false) ∧
    (staged.performers.get 6).map (fun p => (p.spare, p.autoSwap)) = some (some 8, true) ∧
    (staged.packs.get 8).map Pack.health = some .good ∧
    (({ staged with performers := [(6, ⟨[], some 7, none, some 1, false⟩)] } : State).performers.get 6).map
      (fun p => (p.spare, p.autoSwap)) = some (none, false) := by decide +kernel

theorem witness_RunEventsActOnTheRun :
    let s := withCue (fun c => { c with runs := [(1, runA)] }) (inHouse .running)
    s.cue.runs.get 1 = some runA ∧ s.house.held = false ∧
    (∃ a ∈ runA.actions, a.executed = false ∧ a.action.delay ≤ runA.elapsed) ∧
    (∀ a ∈ ({ runA with actions := [⟨⟨.flag 3 true, 5⟩, true⟩] } : Run).actions,
      a.executed = true ∨ runA.elapsed < a.action.delay) ∧ max 5 1 ≤ runA.elapsed := by decide +kernel

/-- All 16 voices in playbacks of cues, voice 2 the earliest. -/
def crowded (gate : Gate) : State :=
  { staged with
    voices := (numbered 16 { ended Voice.reset with startOrder := 5, gate := gate }).update 2 fun x =>
      { x with startOrder := 1 } }

/-- Voice 1 holds tag 4 in the first of its loops from 10 to 20, at sample 12, with one sample of its tail sounded. -/
def looping : State :=
  { staged with
    clips := [(7, { clip with loop := some (10, 20), loops := 3 })],
    voices := State.reset.voices.update 1 fun x =>
      { x with
        state := .playing, owner := .cue, clip := some 7, tag := some 4, position := 12, loops := .count 3,
        primed := true, buffer := List.replicate 9 1, cursor := ⟨11, .count 2⟩, tail := 9 } }

/-- The same with its next 100 samples in flight. -/
def loopingInFlight (disowned : Bool) : State :=
  { looping with
    voiceUnit := { looping.voiceUnit with
      refill := some { refilling with keep := 100, disowned := disowned } } }

theorem witness_ActionsActOnTheShow_play :
    staged.clips.get 9 = none ∧ staged.standing = true ∧ staged.clips.get 7 = some clip ∧
    staged.voices.get 1 = some Voice.reset ∧ Voice.reset.state = .idle ∧
    (∀ kv ∈ (numbered 16 { ended Voice.reset with owner := .call 1 } : Table Voice),
      kv.2.state ≠ .idle ∧ kv.2.owner ≠ .cue) ∧
    (crowded Gate.atOpen).standing = true ∧ (∀ kv ∈ (crowded Gate.atOpen).voices, kv.2.state ≠ .idle) ∧
    (∀ kv ∈ (crowded Gate.atOpen).voices, kv.1 = 2 ∨ 1 < kv.2.startOrder) ∧
    ((crowded Gate.atOpen).voices.get 2).map (fun x => (x.owner, x.startOrder, x.gate.state)) =
      some (.cue, 1, .opened) ∧
    ((crowded ⟨.closed, ⟨0, none⟩⟩).voices.get 2).map (fun x => x.gate.state) = some .closed ∧
    staged.house.held = false := by decide +kernel

theorem witness_ActionsActOnTheShow_voices :
    (∀ kv ∈ staged.voices, kv.2.tag ≠ some 4) ∧ looping.standing = true ∧
    (looping.voices.get 1).map Voice.tag = some (some 4) ∧ (∀ kv ∈ looping.voices, kv.2.tag = some 4 → kv.1 = 1) ∧
    (looping.voices.get 1).map (fun x => (x.pending, x.loops, x.clip, x.buffer.length + looping.inFlight 1)) =
      some (none, .count 3, some 7, 9) ∧
    looping.clips.get 7 = some { clip with loop := some (10, 20), loops := 3 } ∧ 20 - 12 ≤ 9 ∧ ¬(30 - 12 ≤ 9) ∧
    (loopingInFlight false).voiceUnit.refill = some { refilling with keep := 100 } ∧
    refilling.voice = 1 ∧ refilling.disowned = false ∧ (loopingInFlight true).inFlight 1 = 0 ∧
    ((withVoice fun x => { x with pending := some pendingPlay }).voices.get 1).map Voice.pending =
      some (some pendingPlay) ∧ pendingPlay.held = none ∧
    ((withVoice ended).voices.get 1).map Voice.loops = some .none := by decide +kernel

theorem witness_ActionsActOnTheShow_levels :
    .role 5 ∈ (recipes.output 1).live.map Ingredient.src ∧ .input 3 ∉ (recipes.output 1).live.map Ingredient.src ∧
    staged.roles.get 6 = none ∧ (recipes.output 1).live.length < 16 ∧ staged.zones.has 1 = true ∧
    staged.zones.has 2 = false := by decide +kernel

/-- A CALL action on the stage with clip 7 and no pattern is taken; on an absent zone it is refused. -/
theorem witness_ActionsActOnTheShow_calls :
    staged.inDark = false ∧ staged.relay.calls.length < 24 ∧ staged.zoneSet [.stage] = .ok [0] ∧
    staged.zoneSet [.zone 2] = .error .noSuch := by decide +kernel

theorem witness_LampDrivesTheCueLight :
    let s := withCue (fun c => { c with latch := some (latched cueA) }) State.reset
    let held := withCue (fun c => { c with holdRequest := true }) s
    s.cue.darkGap = 0 ∧ s.house.state = .preset ∧ s.cue.latch ≠ none ∧ s.lampNow = .on ∧ State.reset.cue.latch = none ∧
    (inHouse .stopped).house.state = .stopped ∧ held.lampNow = .flash ∧ held.cue.lamp ≠ .flash ∧
    (withCue (fun c => { c with lamp := .flash, flashCount := 250 }) s).cue.flashCount = 250 ∧
    ((withLine .cueLight false s).lines.get 1).map Line.function = some .cueLight ∧
    ((withLine .cueLight false s).lines.get 1).map Line.manual = some false ∧
    ((withLine .generalOut false s).lines.get 1).map Line.function = some .generalOut ∧
    ((withLine .go false s).lines.get 1).map Line.function = some .go ∧
    (withLine .generalOut false s).drivenPin 1 = some false := by decide +kernel

def chasing (c : ChaseState) : State :=
  { inHouse .running with chase := { state := c, frame := 250, tick := 40, count := 8, silence := 120, freewheel := 2001 } }

theorem witness_ChaseEvents :
    (chasing .locked).inDark = false ∧
    (chasing .locked).chase.state ≠ .absent ∧ 40 ≤ (chasing .locked).chase.tick ∧ 120 ≤ (chasing .locked).chase.silence ∧
    (chasing .acquiring).chase.state = .acquiring ∧
    (chasing .freewheel).settings.freewheelLimit < (chasing .freewheel).chase.freewheel ∧
    (let s := withCue (fun c => { c with latch := some (latched cueT) }) (chasing .locked)
     s.cue.latch = some (latched cueT) ∧ (latched cueT).armed = true ∧ (latched cueT).cue.trigger = .timecode 250 ∧
     250 ≤ s.chase.frame ∧ s.chase.state = .locked ∧ s.house.state = .running) := by decide +kernel

theorem witness_PassEvents :
    (withCall id).call 1 = some call ∧ call.phase = .opening ∧ call.timer = 0 ∧
    ((withCall fun c => { c with phase := .gap }).call 1).map Call.phase = some .gap ∧
    ((withCall fun c => { c with phase := .closing }).call 1).map Call.phase = some .closing ∧
    call.kind = .live 5 ∧ call.cut = false ∧
    State.reset.settings.liveMaximum * 1000 < ({ call with liveTime := 120001 } : Call).liveTime ∧ call.pattern = none ∧
    ({ call with pattern := some 2 } : Call).pattern = some 2 ∧
    ({ State.reset with gens := numbered 4 chiming } : State).freeGenerator 1 = none ∧
    staged.freeGenerator 1 = some 1 ∧ staged.patterns.get 2 = some ⟨[], tune⟩ ∧
    waitingCall.kind = .clip (some 7) ∧ staged.idleVoice = some 1 ∧
    ({ staged with voices := numbered 16 { Voice.reset with state := .playing, owner := .call 1 } } : State).idleVoice = none ∧
    ({ staged with voices := numbered 16 { Voice.reset with state := .playing, owner := .call 1 } } : State).oldestCueVoice =
      none := by decide +kernel

/-- A CLIP call's message steals voice 2, with an OPEN and with a CLOSED gate; the evacuation call has no clip. -/
theorem witness_PassEvents_steal :
    let s := { crowded Gate.atOpen with relay := { staged.relay with calls := [(2, waitingCall)] } }
    s.call 2 = some waitingCall ∧ s.standing = true ∧ (∀ kv ∈ s.voices, kv.2.state ≠ .idle) ∧
    (s.voices.get 2).map (fun x => (x.owner, x.gate.state)) = some (.cue, .opened) ∧
    (∀ kv ∈ s.voices, kv.1 = 2 ∨ 1 < kv.2.startOrder) ∧
    ((crowded ⟨.closed, ⟨0, none⟩⟩).voices.get 2).map (fun x => x.gate.state) = some .closed ∧
    ({ call with kind := .clip none, evac := true } : Call).kind = .clip none ∧ call.pattern = none := by decide +kernel

/-- Generator 1 serves while no output is in TONE, and generator 4 for priority 2 alone. -/
theorem witness_PassEvents_generators :
    staged.standing = true ∧ (withCall id).standing = true ∧ (withCall id).freeGenerator 1 = some 1 ∧
    sounding.freeGenerator 1 = some 2 ∧
    (let s := { sounding with gens := (numbered 4 chiming).update 4 fun _ => Generator.reset }
     s.freeGenerator 1 = none ∧ s.freeGenerator 2 = some 4) := by decide +kernel

theorem witness_ChimeEvents :
    (withGen fun g => { g with count := 48, phase := 4194304 }).gens.get 2 = some { chiming with count := 48 } ∧
    chiming.use = .chime ∧ chiming.part = .mark ∧ chiming.tune.mark * 48 ≤ 48 ∧
    passedCrossing chiming.phase chiming.step = true ∧
    (withGen fun g => { g with part := .space, count := 48 }).freshShadow chiming = some tune ∧
    chiming.tune.space * 48 ≤ 48 ∧ chiming.cyclesDone + 1 < tune.cycles ∧ tune.cycles ≤ 1 + 1 ∧ chiming.tune.rests ≤ 1 ∧
    chiming.call = some 1 ∧ (withGen id).inDark = false ∧ (withGen id).house.tickDiv < 48 ∧ (withGen id).standing = true ∧
    ((withGen id).gens.get 1).map Generator.use = some .free ∧
    chiming.tune.mark * 48 ≤ 47 + 1 ∧ (100 + 4194304 - 100 + 16777216 - 4194304) % 16777216 < chiming.step ∧
    0 < chiming.tune.rests ∧ 95 < (chiming.tune.mark + chiming.tune.space) * 48 ∧
    (chiming.tune.mark + chiming.tune.space) * 48 ≤ 95 + 1 ∧ tune.rests ≤ 0 + 1 := by decide +kernel

theorem witness_LineEvents :
    (withLine .go false State.reset).flips 1 .go true = true ∧ (withLine .hold false State.reset).flips 1 .hold true = true ∧
    (withLine .hold true State.reset).flips 1 .hold false = true ∧
    (let s := withCue (fun c => { c with holdLine := true, pendingGo := true }) (withLine .hold true State.reset)
     s.cue.pendingGo = true ∧ s.cue.holdLine = true ∧ s.cue.holdRequest = false ∧
       (s.setActive 1 false).lineLevel .hold = false) ∧
    (withLine .stop false (inHouse .running)).flips 1 .stop true = true ∧
    (withLine .resume false (inHouse .stopped)).flips 1 .resume true = true ∧
    (withLine .evac false (inHouse .dark)).flips 1 .evac true = true ∧
    (withLine .evac true (inHouse .evac)).flips 1 .evac false = true ∧
    (withLine .wake false (inHouse .dark)).flips 1 .wake true = true := by decide +kernel

theorem witness_LineEvents_ptt :
    (withLine .ptt false State.reset).flips 1 .ptt true = true ∧ State.reset.relay.pttPressed = false ∧
    (withLine .ptt true State.reset).flips 1 .ptt false = true ∧
    ((withLine .ptt true State.reset).setActive 1 false).lineLevel .ptt = false ∧
    (((withLine .ptt true State.reset).setLine 2 fun l =>
      { l with function := .ptt, enabled := true, active := true }).setActive 1 false).lineLevel .ptt = true := by decide +kernel

/-- With zone 1 and the stage present the PTT targets of reset are taken, with no zone present they are refused; call 1 is marked,
alone. -/
theorem witness_LineEvents_press :
    staged.zoneSet staged.settings.pttTargets = .ok [1] ∧ staged.inDark = false ∧ staged.relay.calls.length < 24 ∧
    State.reset.zoneSet State.reset.settings.pttTargets = .ok [] ∧
    (∀ kc ∈ contended.relay.calls, kc.2.ptt = false) ∧
    ((withCall fun c => { c with ptt := true }).call 1).map Call.ptt = some true ∧
    (∀ kc ∈ (withCall fun c => { c with ptt := true }).relay.calls, kc.2.ptt = true → kc.1 = 1) ∧
    (inHouse .dark).inDark = true ∧
    (let s := withCue (fun c => { c with holdLine := true, pendingGo := true }) staged
     s.holdPresent = true ∧ s.cue.pendingGo = true) := by decide +kernel

/-- R146: a press enters the LIVE call of the settings with the mark, and clears the mark of call 1. -/
theorem test_ptt_press :
    let s := { staged with relay := { staged.relay with calls := [(1, { call with ptt := true })], lastId := 1 } }
    (s.placePtt.relay.calls.map fun kc => (kc.1, kc.2.ptt, kc.2.kind)) =
      [(1, false, .live 5), (2, true, .live 1)] := by decide +kernel

theorem witness_EventsNotDueChangeNothing :
    .wakeLine 1 ∉ State.reset.agenda ∧
    State.reset.clipEnded 1 = false ∧ (State.reset.gen 1).markEnded = false ∧ (State.reset.gen 1).spaceEnded = false ∧
    (State.reset.gen 1).chimeDone = false ∧ State.reset.nextRequest = none ∧ State.reset.ramps.get 1 = none ∧
    (State.reset.voice 1).gate.state = .opened ∧ (recipes.output 1).live.all (·.outgoing.isNone) = true ∧
    (inHouse .dark).inDark = true ∧ State.reset.packs.get 1 = none ∧ State.reset.cue.runs.get 1 = none ∧
    State.reset.actionIsDue 1 = false ∧
    (withCue (fun c => { c with darkGap := 1 }) State.reset).cue.darkGap ≠ 0 ∧
    State.reset.cue.lamp = .off ∧ State.reset.chase.state = .absent ∧ State.reset.chase.silence < 120 ∧
    State.reset.cue.latch = none ∧ (withCall id).call 1 = some call ∧ call.phase ≠ .closing ∧ call.phase ≠ .gap ∧
    ({ call with timer := 1 } : Call).timer ≠ 0 ∧ call.liveTime ≤ State.reset.settings.liveMaximum * 1000 ∧
    State.reset.flips 1 .go true = false ∧ State.reset.flips 1 .hold true = false ∧
    State.reset.flips 1 .hold false = false ∧ State.reset.flips 1 .stop true = false ∧
    State.reset.flips 1 .resume true = false ∧ State.reset.flips 1 .evac true = false ∧
    State.reset.flips 1 .evac false = false ∧ State.reset.flips 1 .wake true = false ∧
    State.reset.flips 1 .ptt true = false ∧ State.reset.flips 1 .ptt false = false := by decide +kernel

/-! ### Witnesses: arbitration and the end of passes -/

theorem witness_ArbiterGrants :
    contended.occupancyLaw = true ∧ contended.relay.calls.sorted = true ∧ contended.call 2 = some waitingCall ∧
    waitingCall.phase = .idle ∧ (waitingCall.zonesIn .waiting).filter (contended.grantable waitingCall) = [0, 1] ∧
    contended.call 1 = some call ∧ call.phase ≠ .idle ∧ contended.occupant 1 = some ⟨1, 1⟩ ∧ call.isLive = true ∧
    contended.voiceUnit.waiting = [] ∧
    (((contended.arbitrateCall 2).call 1).map fun x => (x.zonesIn .active, x.entries.get 1)) =
      some ([], some .preempted) ∧
    ({ contended with house := { contended.house with state := .evac } } : State).grantable waitingCall 0 = false := by
  decide +kernel

/-- The pool has room for every duck move of the stage and zone 1, which are outside DARK and have their fades; with a full pool
and with fades of 0 they snap. -/
theorem witness_ArbiterGrants_ducks :
    contended.rampLaw = true ∧ contended.inDark = false ∧ 0 < contended.settings.stageDuckFade ∧
    (∀ kz ∈ contended.zones, 0 < kz.2.duckFade) ∧
    contended.ramps.length + contended.zones.length + contended.outputs.length ≤ 128 ∧
    contended.zones.get 1 = some { zone with occupant := some ⟨1, 1⟩ } ∧ (contended.outputs.get 24).isSome = true ∧
    ({ contended with ramps := fullPool } : State).rampLaw = true := by decide +kernel

/-- R149: a grant of the stage and zone 1 moves their ducks from 0 to their depths, 240 and 360, owner CALL. -/
theorem test_ducks_move :
    let u := contended.arbitrateCall 2
    ((u.rampOn (.stageDuck 24)).map fun er => (er.2.owner, er.2.glide)) =
      some (.call, Glide.between 0 (240 * 65536) 300 false) ∧
    ((u.rampOn (.zoneDuck 1)).map fun er => (er.2.owner, er.2.glide)) =
      some (.call, Glide.between 0 (360 * 65536) 300 false) := by decide +kernel

theorem witness_PassesEndAndRetire :
    announcing.occupancyLaw = true ∧ announcing.rampLaw = true ∧
    ((announcing.call 1).map fun c => c.zonesIn .active) = some [0, 1] ∧ announcing.zones.get 1 =
      some { zone with occupant := some ⟨1, 1⟩ } ∧ announcing.outputs.has 24 = true ∧
    contended.call 2 = some waitingCall ∧ waitingCall.phase = .idle ∧ (∃ e ∈ waitingCall.entries, e.2 = .waiting) ∧
    (∀ e ∈ ({ call with entries := [(1, .missed)] } : Call).entries, e.2 ≠ .waiting ∧ e.2 ≠ .active) ∧
    (∀ e ∈ ({ call with entries := [(1, .done)] } : Call).entries, e.2 ≠ .missed ∧ e.2 ≠ .preempted) ∧
    call.phase = .opening ∧ call.evac = false ∧ call.cut = false ∧
    ({ call with phase := .message, evac := true } : Call).evac = true := by decide +kernel

/-- Call 1 with generator 2, holding a voice that plays its message or is still CLOSING for the steal, holding one that has since
been taken from it, and waiting for one. -/
theorem witness_PassesEndAndRetire_letsGo :
    let holding (x : Voice → Voice) : State :=
      { withCall (fun c => { c with voice := .held 1, gen := some 2 }) with voices := State.reset.voices.update 1 x }
    (holding id).call 1 = some { call with voice := .held 1, gen := some 2 } ∧ (holding id).gens.has 2 = true ∧
    ((holding fun x => { x with state := .playing, owner := .call 1 }).voices.get 1).map (fun x => (x.owner, x.state)) =
      some (.call 1, .playing) ∧
    ((holding fun x => { x with state := .closing, owner := .call 1 }).voices.get 1).map (fun x => (x.owner, x.state)) =
      some (.call 1, .closing) ∧
    ((holding fun x => { x with state := .playing, owner := .cue }).voices.get 1).map Voice.owner = some .cue ∧
    call.voice = .none ∧ call.gen = none ∧ (queued.call 2).map Call.voice = some call.voice ∧
    ((withCall fun c => { c with voice := .waiting }).call 1).map Call.voice = some .waiting := by decide +kernel

/-! ### Witnesses: requests on records -/

theorem witness_CastWritesTaken :
    readKey 1 0 95 (some [95]) = .ok 95 ∧ modeTakes (some 1) (staged.roles.has 95) = true ∧
    readRole (some [⟨3, [6]⟩]) = .ok ([], some 6) ∧ staged.performers.has 6 = true ∧
    readPerformer (some [⟨5, [1]⟩]) = .ok ⟨[], none, none, some 1, false⟩ ∧ staged.zones.has 1 = true ∧
    staged.namedByOther 7 none = false ∧ readPack (some [⟨2, [64]⟩]) = .ok 64 ∧ staged.packs.get 9 = none ∧
    (∀ jp ∈ staged.packs, jp.2.channel = 64 → jp.1 = 9) ∧ staged.packs.get 7 = some (pack .good) ∧
    (pack .good).channel ≠ 64 := by decide +kernel

theorem witness_CastWritesTaken_retirements :
    readKey 1 0 95 (some [5]) = .ok 5 ∧ staged.roles.has 5 = true ∧ staged.roleCount 5 = 0 ∧ recipes.roleCount 5 ≠ 0 ∧
    staged.roles.has 6 = false ∧ staged.packs.get 7 = some (pack .good) ∧ staged.packs.get 5 = none ∧
    readKey 1 0 127 (some [6]) = .ok 6 ∧ staged.performers.has 6 = true ∧ staged.performerCount 6 ≠ 0 ∧
    ({ staged with roles := [] } : State).performerCount 6 = 0 ∧ staged.performers.has 7 = false := by decide +kernel

/-- Role 5's live ingredient stands on channel 3 and its role resolves to channel 4: it crossfades, or is set in DARK. -/
theorem witness_CastWritesTaken_crossfade :
    let s := { recipes with packs := [(7, { pack .good with channel := 4 })] }
    (s.output 1).live[0]? = some (staged.newIngredient (.role 5)) ∧ (staged.newIngredient (.role 5)).channel = some 3 ∧
    s.resolve 5 = some 4 ∧ s.inDark = false ∧ recipes.resolve 5 = some 3 ∧
    ({ s with house := { s.house with state := .dark } } : State).inDark = true := by decide +kernel

/-- The field list of a MANUAL cue with the one action of `cueA`. -/
def cueFields : List Entry := [⟨3, [0]⟩, ⟨6, putAction ⟨.flag 3 true, 0⟩⟩]

theorem witness_CueListEdits :
    readCueKey (some [0x00, 0x0C, 0x32]) = .ok 1250 ∧ modeTakes (some 0) (staged.cues.has 1250) = true ∧
    readCueRecord (some cueFields) = .ok cueA ∧ cueA.actions.all staged.refsPresent = true ∧
    staged.cues.get 1250 = some cueA ∧ cueA.actions.length ≤ staged.actionsFree ∧
    readInsert (some (⟨1, [0x00, 0x0C, 0x32]⟩ :: cueFields)) = .ok (1250, cueA) ∧ staged.cues.has 1250 = true ∧
    staged.cues.above 1250 = some (1300, cueA) ∧ (1250 + 1300) / 2 ≠ 1250 ∧ staged.cues.get 1275 = none ∧
    staged.cues.length < 1024 ∧ staged.cues.above 1300 = none ∧ staged.cues.has 1275 = false := by decide +kernel

/-- The latch EMPTY, FULL with the number edited and FULL with another. -/
theorem witness_CueListEdits_stale :
    staged.cue.latch = none ∧
    (withCue (fun c => { c with latch := some (latched cueA) }) staged).cue.latch = some (latched cueA) ∧
    (latched cueA).number = 1250 ∧ (latched cueA).number ≠ 1300 := by decide +kernel

theorem witness_RecordWritesTaken :
    (readSettings State.reset.settings (some [])) = .ok State.reset.settings ∧
    readCueState (some [⟨7, [0]⟩]) = .ok true ∧ readMask (some [⟨2, [1]⟩]) = .ok none ∧
    readKey 2 0 511 (some [0x01, 0xFF]) = .ok 511 ∧ modeTakes (some 1) (staged.clips.has 511) = true ∧
    readClip (some [⟨2, [0]⟩, ⟨3, [100]⟩]) = .ok clip ∧ staged.voices.any (fun kv => kv.2.holds 511) = false ∧
    (withVoice ended).voices.any (fun kv => kv.2.holds 7) = true ∧ staged.clipCount 7 = 0 ∧
    readKey 1 0 15 (some [2]) = .ok 2 ∧ staged.patternCount 2 = 0 ∧ staged.patterns.has 2 = true ∧
    (readPattern (some [⟨3, [0]⟩, ⟨4, [100]⟩, ⟨6, [1]⟩, ⟨8, [1]⟩])).isOk = true := by decide +kernel

/-- Clip 7 is held by voice 1 and pattern 2 named by a call, so that neither retires; clip 8 and pattern 3 are absent. -/
theorem witness_RecordWritesTaken_inUse :
    readKey 2 0 511 (some [0, 7]) = .ok 7 ∧ (withVoice ended).clips.has 7 = true ∧ (withVoice ended).clipCount 7 = 1 ∧
    staged.clips.has 8 = false ∧ staged.patterns.has 3 = false ∧
    ({ staged with relay := { staged.relay with calls := [(1, { call with pattern := some 2 })] } } :
      State).patternCount 2 = 1 := by decide +kernel

/-- All 32 show flags supplied as clear are read as such. -/
theorem witness_RecordWritesTaken_flags :
    (readFlags 5 (some ((List.range 32).map fun n => ⟨BitVec.ofNat 8 (n + 1), [0]⟩))).isOk = true := by rfl

theorem witness_OutputWritesTaken :
    readKey 1 1 8 (some [8]) = .ok 8 ∧ readProgramme (some [⟨3, [0]⟩]) = .ok ([], some 0, false) ∧
    readKey 1 1 24 (some [24]) = .ok 24 ∧ (readFoldback (some [])).isOk = true ∧ readKey 1 1 16 (some [1]) = .ok 1 ∧
    modeTakes (some 0) (staged.zones.has 1) = true ∧ (readZone (some [])).isOk = true ∧
    ({ staged with performers := [], groups := [], settings := { staged.settings with defaultZone := 2 } } :
      State).zoneCount 1 = 0 ∧ staged.zoneCount 1 ≠ 0 ∧ readGroup (some [⟨3, [1]⟩]) = .ok ([], [1]) ∧ staged.groups.has 1 = true := by decide +kernel

/-- Zone 1 is named by performer 6, group 1 and the default call zone; zone 2 and group 2 are absent. -/
theorem witness_OutputWritesTaken_counts :
    staged.zoneCount 1 = 3 ∧ staged.zones.has 2 = false ∧ staged.groups.has 2 = false := by decide +kernel

theorem witness_RecipeEditsTaken :
    readLiveKey (some [1, 0, 0, 5]) = .ok ⟨1, false, .role 5⟩ ∧ readIngredient (some [⟨2, [0]⟩]) = .ok 0 ∧
    recipes.absentRole (.role 5) = false ∧ (ingredientOf (recipes.output 1).live (.role 5)).isSome = true ∧
    ingredientOf (recipes.output 1).live (.input 2) = none ∧ (recipes.output 1).live.length < 16 ∧
    readPendingKey (some [1, 1, 1, 2]) = .ok ⟨1, true, .input 2⟩ ∧
    (recipes.pendingOrCopy 1).any (·.src == .input 2) = true ∧ (recipes.pendingOrCopy 1).any (·.src == .input 3) = false ∧
    (recipes.pendingOrCopy 1).length < 16 ∧ readOne (readIn 1 24) (some [⟨1, [1]⟩]) = .ok 1 ∧
    (recipes.output 1).pending ≠ none ∧ (recipes.output 2).pending = none := by decide +kernel

/-- Output 1's first ingredient is departing and is left out of the copy, the second is copied at its audible code. -/
theorem witness_RecipeEditsTaken_copy :
    let s := { mixed.setOutput 1 fun b => { b with pending := none } with
      ramps := [(0, { doneRamp with
        element := .ingredient 1 (.role 5), action := some (.removeIngredient 1 (.role 5)) })] }
    (s.output 1).pending = none ∧ s.departing 1 (.role 5) = true ∧ s.departing 1 (.input 3) = false ∧
    s.pendingOrCopy 1 = [⟨.input 3, 0⟩] ∧ (mixed.output 1).pending ≠ none := by decide +kernel

theorem witness_TakeMovesThePendingRecipeIn :
    readTake (some [⟨1, [1]⟩, ⟨2, []⟩]) = .ok (1, none) ∧ (recipes.output 1).pending = some [⟨.input 2, 900⟩] ∧
    mixed.rampLaw = true ∧ mixed.recipeLaw = true ∧
    (mixed.output 1).pending = some [⟨.role 5, 800⟩, ⟨.input 2, 900⟩] ∧
    (mixed.output 1).live.map Ingredient.src = [.role 5, .input 3] ∧ mixed.departing 1 (.input 3) = false := by
  decide +kernel

/-- A move with room in the pool, one that snaps in DARK and one of glide 0; a departing ingredient; an output with no pending
recipe. -/
theorem witness_TakeMovesThePendingRecipeIn_moves :
    mixed.inDark = false ∧ 0 < min ((none : Option Nat).getD mixed.settings.editGlide) 600000 ∧ mixed.ramps.length + 32 ≤ 128 ∧
    ({ mixed with house := { mixed.house with state := .dark } } : State).inDark = true ∧
    readTake (some [⟨1, [1]⟩, ⟨2, [0]⟩]) = .ok (1, some 0) ∧ min ((some 0 : Option Nat).getD 50) 600000 = 0 ∧
    (staged.output 1).pending = none ∧
    ({ mixed with ramps := [(0, { doneRamp with
        element := .ingredient 1 (.input 3), action := some (.removeIngredient 1 (.input 3)) })] } : State).departing 1
      (.input 3) = true := by decide +kernel

/-- 16 live inputs, none of them pending, and one that arrives: the size check removes the first of the 16. -/
theorem witness_TakeMovesThePendingRecipeIn_removed :
    let s := recipes.setOutput 1 fun b =>
      { b with live := (List.range 16).map fun n => staged.newIngredient (.input (n + 10)) }
    s.rampLaw = true ∧ s.recipeLaw = true ∧
    (((s.output 1).live.map Ingredient.src).filter fun src => !([Source.input 2] : List Source).contains src).take
      (16 + 1 - 16) = [.input 10] := by decide +kernel

theorem witness_LineWritesTaken :
    readKey 1 1 12 (some [12]) = .ok 12 ∧ readLine (some [⟨2, [1]⟩, ⟨4, [1]⟩]) = .ok ⟨some .go, none, some true, none, none⟩ ∧
    State.reset.lines.get 12 = some Line.reset ∧ Line.reset.live = false ∧ State.reset.inDark = false ∧
    ((⟨some .go, none, some true, none, none⟩ : LineWrite).apply Line.reset).live = true ∧
    ((⟨some .hold, none, some true, none, none⟩ : LineWrite).apply Line.reset).function = .hold ∧
    ((⟨some .ptt, none, some true, none, none⟩ : LineWrite).apply Line.reset).function = .ptt ∧
    ((⟨some .go, none, none, none, none⟩ : LineWrite).apply Line.reset).live = false := by decide +kernel

theorem witness_LineWritesTaken_live :
    let old := (withLine .hold true State.reset).line 1
    let ptt := (withLine .ptt true State.reset).line 1
    old.live = true ∧ old.active = true ∧ old.function = .hold ∧ ptt.function = .ptt ∧
    ((⟨none, none, some false, none, none⟩ : LineWrite).apply old).live = false ∧
    ((⟨none, none, some true, none, none⟩ : LineWrite).apply old).activeLow = old.activeLow ∧
    ((⟨none, some true, none, none, none⟩ : LineWrite).apply old).activeLow ≠ old.activeLow ∧
    ((⟨some .ptt, none, none, none, none⟩ : LineWrite).apply old).function = .ptt ∧
    ({ State.reset with relay := { State.reset.relay with pttPressed := true } } : State).relay.pttPressed = true := by
  decide +kernel

/-- A live active line given the other polarity, its pin active under it too: the case of log entry 47. -/
theorem witness_LineWritesTaken_polarity :
    let old := { (withLine .hold true State.reset).line 1 with pin := false }
    let new := (⟨none, some true, none, none, none⟩ : LineWrite).apply old
    old.live = true ∧ new.live = true ∧ old.active = true ∧ old.function = new.function ∧ old.activeLow ≠ new.activeLow ∧
    new.pinActive old.pin = true := by decide +kernel

/-! ### Witnesses: requests of the show, and the laws -/

theorem witness_ClearStandbyEmptiesTheLatch :
    (inHouse .dark).inDark = true ∧ staged.inDark = false ∧ staged.cueAfterLast = some (1250, cueA) := by decide +kernel

theorem witness_CueRequestsTaken :
    readOne readCue (some [⟨1, [0x00, 0x0C, 0x32]⟩]) = .ok 1250 ∧ (inHouse .dark).inDark = true ∧ staged.inDark = false ∧
    staged.cues.get 1250 = some cueA ∧ State.reset.cues.get 1250 = none ∧ staged.house.state = .preset ∧
    staged.holdPresent = false ∧
    (let s := withCue (fun c => { c with holdRequest := true, pendingGo := true }) staged
     s.holdPresent = true ∧ s.cue.pendingGo = true ∧ s.cue.holdLine = false ∧ s.cue.holdRequest = true) ∧
    (withCue (fun c => { c with holdRequest := true }) staged).cue.pendingGo = false ∧
    (inHouse .stopped).house.state = .stopped := by decide +kernel

theorem witness_GoFiresTheLatchedCue :
    let s := withCue (fun c => { c with latch := some (latched cueA) }) (inHouse .running)
    s.settle = s ∧ s.house.state = .running ∧ s.holdPresent = false ∧ s.cue.latch = some (latched cueA) :=
  ⟨rfl, rfl, rfl, rfl⟩

/-- 8 BUSY runs, run 3 the earliest. -/
def busyRuns : Table Run := (numbered 8 { runA with order := 9 }).update 3 fun x => { x with order := 1 }

theorem witness_GoFiresTheLatchedCue_fire :
    staged.house.state = .preset ∧ staged.holdPresent = false ∧ staged.cue.latch = none ∧ staged.cue.lastFired = none ∧
    staged.cues.head? = some (1250, cueA) ∧ staged.cues.above 1250 = some (1300, cueA) ∧ staged.cues.above 1300 = none ∧
    staged.cue.runs.length < 8 ∧ staged.cue.runs.get 1 = none ∧
    (withCue (fun c => { c with runs := [(1, runA)] }) staged).cue.runs.get 2 = none ∧
    cueA.branch = none ∧ staged.flags.getLsbD 3 ≠ true ∧ staged.flags.getLsbD 3 = false ∧
    staged.cues.get 1300 = some cueA ∧ staged.cues.get 7 = none := by decide +kernel

theorem witness_GoFiresTheLatchedCue_collapse :
    let s := withCue (fun c => { c with runs := busyRuns, nextOrder := 10 }) staged
    s.runsLaw = true ∧ 8 ≤ s.cue.runs.length ∧ s.cue.runs.get 3 = some { runA with order := 1 } ∧
    (∀ kr ∈ s.cue.runs, kr.1 = 3 ∨ 1 < kr.2.order) ∧
    (∀ a ∈ ({ runA with actions := [⟨⟨.flag 3 true, 5⟩, true⟩], follow := .expired } : Run).actions, a.executed = true) ∧
    ¬(∀ a ∈ runA.actions, a.executed = true) := by decide +kernel

theorem witness_SupervisionRequestsTaken :
    readOne (readIn 0 2159999) (some [⟨1, [0x20, 0xF5, 0x7F]⟩]) = .ok 2159999 ∧ (inHouse .dark).inDark = true ∧
    staged.inDark = false ∧ staged.chase.state = .absent ∧
    readReport (some [⟨1, [7]⟩, ⟨2, [9]⟩, ⟨3, [0x03, 0x00]⟩]) = .ok (7, 9, 768) ∧ staged.packs.get 7 = some (pack .good) ∧
    staged.settings.rfFloor ≤ min 9 15 ∧ 0 < min 768 1023 ∧
    (pack .good).warning = decide (min 768 1023 < staged.settings.batteryThreshold) ∧
    readOne (readIn 0 127) (some [⟨1, [6]⟩]) = .ok 6 ∧
    (staged.performers.get 6).map Performer.spare = some (some 8) ∧
    readCheck (some [⟨1, [24]⟩, ⟨2, [2]⟩]) = .ok (24, .tone) ∧ staged.house.state = .preset ∧
    (staged.gen 1).use ≠ .chime ∧ (inHouse .running).house.state ≠ .preset ∧
    (({ staged with gens := numbered 4 chiming } : State).gen 1).use = .chime := by decide +kernel

/-- Output 3 in TONE with generator 1 FREE and in LINE_CHECK, and no output in TONE with either. -/
theorem witness_SupervisionRequestsTaken_lineCheck :
    (∃ kb ∈ sounding.outputs, kb.2.check = .tone) ∧ (sounding.gen 1).use = .free ∧
    (sounding.lineCheck.gen 1).use = .lineCheck ∧ (∀ kb ∈ staged.outputs, kb.2.check ≠ .tone) ∧
    (staged.gen 1).use ≠ .lineCheck ∧
    (({ sounding.lineCheck with outputs := staged.outputs } : State).gen 1).use = .lineCheck := by decide +kernel

/-- The rows of the tables of R36 and R89: an arrival in and out of the window, a good and a bad report, and K reached. -/
theorem witness_SupervisionRequestsTaken_rows :
    (251 ≤ (chasing .locked).chase.frame + (chasing .locked).settings.window ∧
      (chasing .locked).chase.frame ≤ 251 + (chasing .locked).settings.window) ∧
    ¬(252 ≤ (chasing .locked).chase.frame + (chasing .locked).settings.window) ∧
    2 ^ ((chasing .locked).settings.qualifyIndex + 1) ≤ min (7 + 1) 64 ∧
    min (6 + 1) 64 < 2 ^ ((chasing .locked).settings.qualifyIndex + 1) ∧
    (chasing .acquiring).chase.state = .acquiring ∧ (chasing .freewheel).chase.state = .freewheel ∧
    staged.packs.get 9 = none ∧ staged.performers.get 9 = none ∧ 1 < staged.settings.qualifyCount ∧
    staged.settings.qualifyCount ≤ 7 + 1 ∧ (staged.settings.rfFloor ≤ min 4 15 ∧ 0 < 1) ∧
    ¬(staged.settings.rfFloor ≤ min 3 15) := by decide +kernel

/-- PLACE_CALL on zone 1: LIVE from channel 5, and clip 7 after pattern 2. -/
def liveBody : List Entry := [⟨1, [0, 1]⟩, ⟨2, [1]⟩, ⟨3, [0, 5]⟩]

theorem witness_CallRequests :
    readPlaceCall (some liveBody) = .ok ⟨[.zone 1], 1, .live 5, none, false⟩ ∧
    readPlaceCall (some [⟨1, [0, 1]⟩, ⟨2, [1]⟩, ⟨3, [1, 0, 7]⟩, ⟨4, [2]⟩]) =
      .ok ⟨[.zone 1], 1, .clip (some 7), some 2, false⟩ ∧ staged.clips.has 7 = true ∧ staged.patterns.has 2 = true ∧
    staged.zoneSet [.zone 1] = .ok [1] ∧ staged.inDark = false ∧ staged.relay.calls.length < 24 ∧
    (inHouse .dark).inDark = true ∧ readOne (readIn 1 255) (some [⟨1, [1]⟩]) = .ok 1 ∧ staged.call 1 = none ∧
    (withCall id).call 1 = some call ∧ call.evac = false ∧
    ((withCall fun c => { c with evac := true }).call 1).map Call.evac = some true ∧
    readKey 1 1 255 (some [255]) = .ok 255 := by decide +kernel

/-- Ids 1 and 2 are used and the last issued is 255; targets that give their zones and targets that give none; a call to be
cancelled in and out of its pass. -/
theorem witness_CallRequests_parts :
    let s := { contended with relay := { contended.relay with lastId := 255 } }
    s.relay.calls.length ≤ 24 ∧ s.nextId = (255 + 2) % 255 + 1 ∧ s.call 3 = none ∧
    (∀ j, j < 2 → s.call ((255 + j) % 255 + 1) ≠ none) ∧
    staged.zoneSet [.group 1, .stage, .role 5, .all] = .ok [0, 1] ∧ staged.zoneSet [.group 2] = .error .noSuch ∧
    staged.zones.has 1 = true ∧ staged.zones.has 2 = false ∧ staged.roles.get 9 = some ⟨[], none⟩ ∧
    staged.performers.get 6 = some ⟨[], some 7, some 8, some 1, true⟩ ∧ staged.roles.get 6 = none ∧
    announcing.relay.calls.sorted = true ∧ (announcing.call 1).map Call.phase = some .opening ∧
    contended.relay.calls.sorted = true ∧ contended.call 2 = some waitingCall ∧ waitingCall.phase = .idle := by
  decide +kernel

/-- PLACE_CALL of absent clip 8, and of ALL with no zone present. -/
theorem witness_CallRequests_noSuch :
    readPlaceCall (some [⟨1, [0, 1]⟩, ⟨2, [1]⟩, ⟨3, [1, 0, 8]⟩]) = .ok ⟨[.zone 1], 1, .clip (some 8), none, false⟩ ∧
    staged.clips.has 8 = false ∧ staged.patterns.has 3 = false ∧
    ({ staged with zones := [] } : State).zoneSet [.all] = .ok [] := by decide +kernel

theorem witness_HouseTransitions :
    (inHouse .running).house.state = .running ∧
    (withCue (fun c => { c with pendingGo := true }) (inHouse .running)).cue.pendingGo = true ∧
    (inHouse .stopped).house.state = .stopped ∧ (inHouse .stopped).rampLaw = true ∧ (inHouse .stopped).standing = true ∧
    ((withVoice fun x => { x with state := .paused, owner := .cue, gate := dueGate .closing }).voices.get 1).map
      (fun x => (x.state, x.owner)) = some (.paused, .cue) ∧
    ((withVoice fun x => { x with state := .closing, owner := .cue, gate := ⟨.closed, ⟨0, none⟩⟩ }).voices.get 1).map
      (fun x => (x.state, x.gate.state)) = some (.closing, .closed) ∧
    (inHouse .stopped).voiceUnit.waiting = [] := by decide +kernel

/-- Voice 1 of a cue, CLOSED and CLOSING for a steal in STOPPED, with a pending playback and a move held for it. -/
def awaiting (held : Option Move) : State :=
  let s := withVoice fun x =>
    { x with
      state := .closing, owner := .cue, cause := some .steal, gate := ⟨.closed, ⟨0, none⟩⟩,
      pending := some { pendingPlay with held := held } }
  { s with house := { s.house with state := .stopped, held := true } }

def heldMove : Move := { element := .voice 1, target := 900, fade := 100, owner := .cue, action := some (.stopVoice 1 0) }

theorem witness_HouseTransitions_resume :
    (awaiting (some heldMove)).house.state = .stopped ∧ (awaiting (some heldMove)).rampLaw = true ∧
    (awaiting (some heldMove)).standing = true ∧ (awaiting (some heldMove)).heldMoveLaw = true ∧
    ((awaiting (some heldMove)).voices.get 1).map (fun x => (x.owner, x.state, x.gate.state, x.cause)) =
      some (.cue, .closing, .closed, some .steal) ∧
    ((awaiting (some heldMove)).voices.get 1).map Voice.pending = some (some { pendingPlay with held := some heldMove }) ∧
    0 < heldMove.fade ∧ (awaiting (some heldMove)).ramps.length + 16 ≤ 128 ∧ (awaiting none).heldMoveLaw = true ∧
    (awaiting none).clips.get 7 = some clip ∧ 0 < clip.length ∧ State.reset.heldMoveLaw = true := by decide +kernel

/-- A voice to be parked by its state: PLAYING, CLOSING for a steal and for an end, and one no cue owns. -/
theorem witness_HouseTransitions_park :
    (ended Voice.reset).owner = .cue ∧ (ended Voice.reset).state = .playing ∧
    ((closing .steal false).voice 1).cause ≠ some .ending ∧ ((closing .ending false).voice 1).cause = some .ending ∧
    Voice.reset.owner ≠ .cue ∧ (∀ id, Voice.reset.owner ≠ .call id) ∧ staged.voices.get 1 = some Voice.reset := by
  refine ⟨rfl, rfl, by decide +kernel, by decide +kernel, by decide, (fun _ h => by cases h), by decide +kernel⟩

/-- R110: at RESUME the stolen voice plays on in its pending playback from off, and the move held for it takes 100 ticks. -/
theorem test_resume_begins_pending :
    let u := (awaiting (some heldMove)).resumeNow
    (u.voices.get 1).map (fun x => (x.state, x.pending, x.clip, x.level)) = some (.playing, none, some 7, 39321600) ∧
    (u.rampOn (.voice 1)).map (fun er => (er.2.glide.left, er.2.frozen)) = some (100, false) := by decide +kernel

theorem witness_HouseTransitions_evac :
    contended.house.state ≠ .evac ∧ contended.occupancyLaw = true ∧ call.priority < 3 ∧ waitingCall.priority < 3 ∧
    (∀ kz ∈ contended.zones, kz.2.floor ≤ 3) ∧ (inHouse .evac).house.state = .evac ∧
    (inHouse .evac).lineLevel .evac = false ∧ (inHouse .evac).occupancyLaw = true ∧
    ({ call with evac := true } : Call).evac = true ∧ staged.mayDarken = true ∧ staged.rampLaw = true ∧
    (ramping [(0, doneRamp)]).ramps.get 0 = some doneRamp ∧ doneRamp.element ≠ .ingredient 1 (.role 5) ∧
    (inHouse .dark).house.state = .dark ∧ staged.house.state = .preset := by decide +kernel

/-- What a restart completes: the first ingredient of output 1 on its way to a level, the second departing, and programme output 1
with no ramp. -/
def restarting : State :=
  { mixed with
    ramps := [(0, { doneRamp with element := .ingredient 1 (.role 5) }),
      (1, { doneRamp with element := .ingredient 1 (.input 3), action := some (.removeIngredient 1 (.input 3)) })] }

theorem witness_HouseTransitions_restart :
    restarting.house.state = .preset ∧ restarting.rampLaw = true ∧ (restarting.outputs.get 1).isSome = true ∧
    (restarting.ramps.get 0).map Ramp.element = some (.ingredient 1 (.role 5)) ∧
    (restarting.ramps.any fun er => er.2.action == some (.removeIngredient 1 (.role 5))) = false ∧
    (restarting.ramps.any fun er => er.2.action == some (.removeIngredient 1 (.input 3))) = true ∧
    restarting.rampOn (.programmeMaster 1) = none ∧ restarting.rampOn (.zoneFeed 1) = none ∧
    EventFlag.underrun ≠ .packChanged ∧ EventFlag.underrun ≠ .chaseChanged ∧ EventFlag.underrun ≠ .houseChanged := by
  decide +kernel

/-- A live ingredient's element keeps the level that is set on it. -/
theorem witness_HouseTransitions_element :
    ∀ f, (State.setFine (.ingredient 1 (.role 5)) f restarting).fine (.ingredient 1 (.role 5)) = f := fun _ => rfl

/-- R136, R183: a restart leaves the ingredient at its ramp's target and takes the departing one out. -/
theorem test_restart_recipe :
    (restarting.audioRestart.output 1).live.map (fun i => (i.src, i.level)) = [(.role 5, 900 * 65536)] := by decide +kernel

theorem witness_RampPoolLawKept :
    ({ State.reset with ramps := [(0, doneRamp)] } : State).rampLaw = true ∧ step State.reset = .next State.reset :=
  ⟨by decide +kernel, rfl⟩

theorem witness_CueListLawKept : staged.cueListLaw = true ∧ step staged = .next staged := ⟨by decide +kernel, rfl⟩

theorem witness_StatusAndStandingKept :
    staged.statusLaw = true ∧ staged.standing = true ∧ step staged = .next staged :=
  ⟨by decide +kernel, by decide +kernel, rfl⟩

theorem witness_CueEngineLawsKept :
    staged.lampLaw = true ∧ ticking.runsLaw = true ∧ step staged = .next staged :=
  ⟨by decide +kernel, by decide +kernel, rfl⟩

theorem witness_CastLawKept : staged.castLaw = true ∧ step staged = .next staged := ⟨by decide +kernel, rfl⟩

theorem witness_RecipeLawKept : mixed.recipeLaw = true ∧ step mixed = .next mixed := ⟨by decide +kernel, rfl⟩

theorem witness_BufferLawKept :
    (playing 0 true [5]).bufferLaw = true ∧ (awaiting (some heldMove)).heldMoveLaw = true ∧ step (playing 0 true [5]) = .next (playing 0 true [5]) :=
  ⟨by decide +kernel, by decide +kernel, rfl⟩

theorem witness_OccupancyLawKept : contended.occupancyLaw = true ∧ step contended = .next contended :=
  ⟨by decide +kernel, rfl⟩

/-! ### Whole steps on small states -/

/-- What a step leaves, where it answers a next state. -/
def after (i : Instr) (s : State) : Option State :=
  match step { s with pending := [i] } with
  | .next t => some t
  | .fault _ => none
  | .refused _ => none

/-- Section 3.4's example: a cue inserted between 12.50 and 13.00 takes the number 12.75. -/
theorem test_insert_cue_number :
    ((after (.insertCue (some (⟨1, [0x00, 0x0C, 0x32]⟩ :: cueFields))) staged).map fun t => t.cues.keys) =
      some [1250, 1275, 1300] := by decide +kernel

/-- R70, R75: a GO in PRESET enters RUNNING and fires the first cue, whose FLAG action sets flag 3. -/
theorem test_go_in_preset :
    ((after (.go (some [])) staged).map fun t => (t.house.state, t.cue.lastFired, t.flags.getLsbD 3)) =
      some (.running, some 1250, true) := by decide +kernel

/-- R40, R41: a loss of the primary protects its channel and swaps a GOOD spare in. -/
theorem test_loss_swaps :
    ((after (.packTimeout 7) (staged.due (.packTimeout 7))).map fun t =>
      ((t.performers.get 6).map Performer.primary, (t.packs.get 7).map Pack.health, t.ramps.map fun er => er.2.element)) =
      some (some (some 8), some .lost, [.protect 3]) := by decide +kernel

/-- R107: a release cuts the buffer at the loop's end, and a tail sounded past the cut stands at the cut. -/
theorem test_release_cuts_tail :
    ((looping.execute ⟨.voiceRelease 4, 0⟩).voices.get 1).map (fun x => (x.buffer.length, x.tail, x.cursor.index)) =
      some (8, 8, 20) := by decide +kernel

/-- R147, R149: a LIVE call on a free zone is granted it and starts in OPENING. -/
theorem test_place_call_granted :
    ((after (.placeCall (some liveBody)) staged).map fun t =>
      (t.relay.calls.map fun kc => (kc.1, kc.2.phase), (t.zones.get 1).map Zone.occupant)) =
      some ([(1, .opening)], some (some ⟨1, 1⟩)) := by decide +kernel

/-- R127: a TAKE starts the leaving ingredient toward off and the arriving one toward its level. -/
theorem test_take :
    ((after (.take (some [⟨1, [1]⟩])) recipes).map fun t => ((t.output 1).pending, t.ramps.map fun er => er.2.element)) =
      some (none, [.ingredient 1 (.role 5), .ingredient 1 (.input 2)]) := by decide +kernel

/-- R174, R176: STOP_SHOW in RUNNING holds the stop context. -/
theorem test_stop_show :
    ((after (.stopShow (some [])) (inHouse .running)).map fun t => (t.house.state, t.house.held)) =
      some (.stopped, true) := by decide +kernel

/-- R179: EVAC places the evacuation call, id 1, of priority 3. -/
theorem test_evac :
    ((after (.evac (some [])) staged).map fun t => t.relay.calls.map fun kc => (kc.1, kc.2.priority, kc.2.evac)) =
      some [(1, 3, true)] := by decide +kernel

end Sys2Proof.Tests
end

section
/-! PROOFS. Levels: the scaling of a sample by a code (R1, R2). -/

namespace Sys2Proof.Proofs

open Sys2Proof.Machine

/-! ### The exponent and the multiplier of a code (R1) -/

/-- The multipliers rise with the step, and the last is 63670. -/
theorem multiplier_le (c : Nat) : multiplier c ≤ 63670 := by
  have hstep : ∀ m < 24, multipliers.getD m 0 ≤ 63670 := by decide
  exact hstep (c % 24) (Nat.mod_lt c (by decide))

/-- The shift of R2 is never less than 13. -/
theorem shift_ge {c : Nat} (hc : c ≤ 1023) : 13 ≤ 55 - exponent c := by
  unfold exponent
  omega

theorem exponent_eq_zero {c : Nat} (hc : c ≤ 23) : exponent c = 0 :=
  Nat.div_eq_of_lt (by omega)

/-! ### Rounding (R2) -/

/-- Half a divisor added before the floor: the quotient is the one integer within half a divisor of `p / 2^k`, a half going
up. -/
theorem add_half_ediv_eq_iff {k : Nat} (hk : 0 < k) (p q : Int) :
    (p + 2 ^ (k - 1)) / 2 ^ k = q ↔ 2 * p - 2 ^ k < 2 * (q * 2 ^ k) ∧ 2 * (q * 2 ^ k) ≤ 2 * p + 2 ^ k := by
  have hpos : (0 : Int) < 2 ^ k := by positivity
  have hhalf : (2 : Int) ^ k = 2 * 2 ^ (k - 1) := (mul_pow_sub_one hk.ne' 2).symm
  rw [Int.ediv_eq_iff_of_pos hpos]
  exact ⟨fun ⟨hlow, hhigh⟩ => ⟨by linarith, by linarith⟩, fun ⟨hlow, hhigh⟩ => ⟨by linarith, by linarith⟩⟩

/-- A contribution is the one integer nearest the exact scaled sample, a half going up. -/
theorem contribution_eq_iff {c : Nat} (hc : 1 ≤ c) (hmax : c ≤ 1023) (x q : Int) :
    contribution x c = q ↔
      2 * (x * multiplier c) - 2 ^ (55 - exponent c) < 2 * (q * 2 ^ (55 - exponent c)) ∧
      2 * (q * 2 ^ (55 - exponent c)) ≤ 2 * (x * multiplier c) + 2 ^ (55 - exponent c) := by
  have hshift : 0 < 55 - exponent c := Nat.lt_of_lt_of_le (by decide) (shift_ge hmax)
  rw [contribution, if_neg (by omega), add_half_ediv_eq_iff hshift]

theorem contribution_unity (x : Int) : contribution x 960 = x := by
  have hexp : exponent 960 = 40 := rfl
  have hmul : multiplier 960 = 2 ^ 15 := rfl
  rw [contribution_eq_iff (by decide) (by decide), hexp, hmul]
  constructor <;> push_cast <;> linarith

theorem abs_mul_multiplier_le {x : Int} (hx : |x| ≤ 8388608) (c : Nat) : |x * multiplier c| ≤ 8388608 * 63670 := by
  have hmul : |(multiplier c : Int)| ≤ 63670 := by
    rw [Nat.abs_cast]
    exact_mod_cast multiplier_le c
  rw [abs_mul]
  exact mul_le_mul hx hmul (abs_nonneg _) (by decide)

/-- At exponent 0 the product of a 24-bit sample, below 2^40 in size, is under half of 2^55. -/
theorem contribution_eq_zero_of_low_code {x : Int} {c : Nat} (hx : |x| ≤ 8388608) (hc : 1 ≤ c) (hlow : c ≤ 23) :
    contribution x c = 0 := by
  obtain ⟨hneg, hpos⟩ := abs_le.mp (abs_mul_multiplier_le hx c)
  rw [contribution_eq_iff hc (by omega), exponent_eq_zero hlow, Nat.sub_zero]
  constructor <;> linarith

/-- Settles O13: the bounds are those of the nearest integer, unity gain and the low codes follow from them, and the fixed
samples at codes 599 and 961 are evaluated. -/
theorem contributionRoundsToNearest : Obligations.ContributionRoundsToNearest := by
  unfold Obligations.ContributionRoundsToNearest
  refine ⟨?nearest, contribution_unity, by decide, by decide, by decide, ?lowCodes⟩
  case nearest =>
    intro x c hc hmax
    exact ⟨shift_ge hmax, (contribution_eq_iff hc hmax x _).mp rfl⟩
  case lowCodes =>
    intro x c hmin hmax hc hlow
    have hx : |x| ≤ 8388608 := abs_le.mpr ⟨hmin, by omega⟩
    exact contribution_eq_zero_of_low_code hx hc hlow

end Sys2Proof.Proofs
end

section
/-! PROOFS. The state after reset: its standing tables hold one record throughout, and the laws hold of tables that are empty
or at rest (R43, R136, R161). -/

namespace Sys2Proof.Proofs

open Sys2Proof.Machine

/-! ### Tables that hold one record throughout -/

theorem eq_of_mem_numbered {α : Type} {n : Nat} {a : α} {kb : Nat × α} (h : kb ∈ numbered n a) : kb.2 = a := by
  obtain ⟨k, -, rfl⟩ := List.mem_map.mp h
  rfl

theorem keys_numbered {α : Type} (n : Nat) (a : α) : (numbered n a).keys = State.standing.numberedKeys n :=
  List.map_map

/-! ### The laws over tables that are empty or at rest -/

section
variable {s : State}

theorem rampLaw_of_no_ramps (hramps : s.ramps = []) : s.rampLaw = true := by
  simp [State.rampLaw, hramps, Table.sorted]

theorem cueListLaw_of_no_cues (hcues : s.cues = []) : s.cueListLaw = true := by
  simp [State.cueListLaw, State.actionsHeld, hcues, Table.sorted, total]

theorem runsLaw_of_no_runs (hruns : s.cue.runs = []) : s.runsLaw = true := by
  simp [State.runsLaw, hruns, Table.sorted]

theorem castLaw_of_no_cast (hroles : s.roles = []) (hperformers : s.performers = []) (hpacks : s.packs = []) :
    s.castLaw = true := by
  simp [State.castLaw, State.packsNamed, hroles, hperformers, hpacks, Table.sorted]

theorem recipeLaw_of_no_ingredients (h : ∀ kb ∈ s.outputs, kb.2.live = [] ∧ kb.2.pending = none) :
    s.recipeLaw = true := by
  refine List.all_eq_true.mpr fun kb hkb => ?_
  obtain ⟨hlive, hpending⟩ := h kb hkb
  simp [hlive, hpending]

theorem bufferLaw_of_no_samples (hvoices : ∀ kv ∈ s.voices, kv.2.buffer = []) (hrefill : s.voiceUnit.refill = none) :
    s.bufferLaw = true := by
  have hfits : s.refillFits = true := by rw [State.refillFits, hrefill]
  rw [State.bufferLaw, hfits, Bool.and_true]
  refine List.all_eq_true.mpr fun kv hkv => ?_
  simp [hvoices kv hkv]

theorem heldMoveLaw_of_no_pending (h : ∀ kv ∈ s.voices, kv.2.pending = none) : s.heldMoveLaw = true := by
  refine List.all_eq_true.mpr fun kv hkv => ?_
  simp [h kv hkv]

theorem occupancyLaw_of_no_zones (hzones : s.zones = []) (hgroups : s.groups = []) (hcalls : s.relay.calls = [])
    (hstage : s.relay.stage = none) : s.occupancyLaw = true := by
  have hfree : s.occupantHolds 0 = true := by simp [State.occupantHolds, State.occupant, hstage]
  simp [State.occupancyLaw, hzones, hgroups, hcalls, hfree, Table.sorted, Table.keys]

/-- With the latch EMPTY no condition of R84 lights the lamp. -/
theorem lampLaw_of_empty_latch (hlatch : s.cue.latch = none) (hlamp : s.cue.lamp = .off) : s.lampLaw = true := by
  have hnow : s.lampNow = .off := by simp [State.lampNow, hlatch]
  simp [State.lampLaw, hnow, hlamp]

theorem statusLaw_of_cleared (h : s.status = ⟨0, 0, 0, 0, 0, 0⟩) : s.statusLaw = true := by
  simp [State.statusLaw, h]

end

/-! ### The state after reset -/

theorem reset_standing : State.reset.standing = true := by
  simp [State.standing, State.reset, keys_numbered]

/-- R189: before any request the response buffer holds the response to NOP. -/
theorem reset_response : State.reset.response = responseFrame 0x00 0x00 [] := by
  decide +kernel

/-- Settles O11: a standing table holds its one record throughout, the fields named stand in the definition of the state, and
each law follows from the tables that are empty or at rest. -/
theorem resetMeetsTheLaws : Obligations.ResetMeetsTheLaws := by
  unfold Obligations.ResetMeetsTheLaws
  have houtputs : ∀ kb ∈ State.reset.outputs, kb.2 = Foldback.reset := fun _ => eq_of_mem_numbered
  have hvoices : ∀ kv ∈ State.reset.voices, kv.2 = Voice.reset := fun _ => eq_of_mem_numbered
  have hgens : ∀ kg ∈ State.reset.gens, kg.2 = Generator.reset := fun _ => eq_of_mem_numbered
  have hlines : ∀ kl ∈ State.reset.lines, kl.2 = Line.reset := fun _ => eq_of_mem_numbered
  refine ⟨?cast, houtputs, ?relay, rfl, ?house, ?atRest, ?laws⟩
  case cast => exact ⟨rfl, rfl, rfl, rfl, fun _ => eq_of_mem_numbered⟩
  case relay => exact ⟨rfl, rfl, rfl, rfl, rfl, rfl⟩
  case house => exact ⟨rfl, rfl, rfl, rfl, rfl, rfl, rfl, rfl, rfl, rfl, rfl, reset_response⟩
  case atRest =>
    exact ⟨fun kv h => congrArg Voice.state (hvoices kv h), fun kg h => congrArg Generator.use (hgens kg h),
      fun kl h => ⟨congrArg Line.function (hlines kl h), congrArg Line.enabled (hlines kl h)⟩⟩
  case laws =>
    have hrecipes : State.reset.recipeLaw = true := recipeLaw_of_no_ingredients fun kb h =>
      ⟨congrArg Foldback.live (houtputs kb h), congrArg Foldback.pending (houtputs kb h)⟩
    have hbuffers : State.reset.bufferLaw = true :=
      bufferLaw_of_no_samples (fun kv h => congrArg Voice.buffer (hvoices kv h)) rfl
    have hmoves : State.reset.heldMoveLaw = true :=
      heldMoveLaw_of_no_pending fun kv h => congrArg Voice.pending (hvoices kv h)
    exact ⟨rampLaw_of_no_ramps rfl, cueListLaw_of_no_cues rfl, statusLaw_of_cleared rfl, reset_standing,
      lampLaw_of_empty_latch rfl rfl, runsLaw_of_no_runs rfl, castLaw_of_no_cast rfl rfl rfl, hrecipes, hbuffers, hmoves,
      occupancyLaw_of_no_zones rfl rfl rfl rfl⟩

end Sys2Proof.Proofs
end

section
/-! PROOFS. CLEAR_STANDBY: what a fresh decision of the lamp leaves of the cue engine, a fire that finds the latch empty, and the
request itself (R67, R74, R84). -/

namespace Sys2Proof.Proofs

open Sys2Proof.Machine

/-! ### What the lamp and the response leave of the cue engine -/

section
variable {s : State}

@[simp] theorem relamp_latch : s.relamp.cue.latch = s.cue.latch := by
  unfold State.relamp
  split <;> rfl

@[simp] theorem relamp_lastFired : s.relamp.cue.lastFired = s.cue.lastFired := by
  unfold State.relamp
  split <;> rfl

@[simp] theorem relamp_cues : s.relamp.cues = s.cues := by
  unfold State.relamp
  split <;> rfl

@[simp] theorem answered_cue (code : Byte) (body : Bytes) : (s.answered code body).cue = s.cue := rfl

@[simp] theorem answered_cues (code : Byte) (body : Bytes) : (s.answered code body).cues = s.cues := rfl

/-- The cue after the last fired is read from the cue list and the last-fired pointer alone (R74). -/
theorem cueAfterLast_congr {t : State} (hcues : s.cues = t.cues) (hlast : s.cue.lastFired = t.cue.lastFired) :
    s.cueAfterLast = t.cueAfterLast := by
  unfold State.cueAfterLast State.successor
  rw [hcues, hlast]

/-- R74: with the latch EMPTY a fire takes the cue after the last fired. -/
theorem fire_of_empty_latch {n : Nat} {c : Cue} (hlatch : s.cue.latch = none) (hnext : s.cueAfterLast = some (n, c)) :
    s.fire = (s.fireCopy (Latch.of n c), .fired n) := by
  simp only [State.fire, hlatch, hnext]

/-! ### The request -/

theorem clearStandby_dark (h : s.inDark = true) : s.clearStandby = .error .wrongState := if_pos h

theorem clearStandby_outsideDark (h : s.inDark = false) :
    s.clearStandby = .ok (State.relamp { s with cue := { s.cue with latch := none } }) :=
  if_neg (by simp [h])

theorem answerNone_empty (act : Except Status State) : answerNone (some []) act = plain act := rfl

theorem exec_clearStandby (b : Body) :
    exec (.clearStandby b) s = .next (s.request 0x12 fun t => answerNone b t.clearStandby) := rfl

theorem exec_clearStandby_dark (h : s.settle.inDark = true) :
    exec (.clearStandby (some [])) s = .next (s.settle.turnedAway 0x12 .wrongState) := by
  rw [exec_clearStandby, request_error]
  rw [answerNone_empty, clearStandby_dark h, plain_error]

theorem exec_clearStandby_outsideDark (h : s.settle.inDark = false) :
    exec (.clearStandby (some [])) s = .next (State.answered 0x12 []
      (State.relamp { s.settle with cue := { s.settle.cue with latch := none } })) := by
  rw [exec_clearStandby, request_ok]
  rw [answerNone_empty, clearStandby_outsideDark h, plain_ok]

end

/-- Settles O46: in DARK the request is refused; elsewhere the state it leaves has an empty latch and the cue list and last-fired
pointer of the state before, so the next fire takes the same cue after the last fired. -/
theorem clearStandbyEmptiesTheLatch : Obligations.ClearStandbyEmptiesTheLatch := by
  unfold Obligations.ClearStandbyEmptiesTheLatch
  rintro s t rfl
  refine ⟨exec_clearStandby_dark, fun hdark => ⟨_, exec_clearStandby_outsideDark hdark, rfl, ?latch, ?lastFired, ?fire⟩⟩
  case latch => simp
  case lastFired => simp
  case fire =>
    intro n c hnext
    refine fire_of_empty_latch (by simp) ?_
    rw [← hnext]
    exact cueAfterLast_congr (by simp) (by simp)

end Sys2Proof.Proofs
end
